-- ==== Sys2Proof/Word.lean ====
section
/-! DEFINITION. The words and small index types the FM-608 manual uses: bytes, 16-bit ids and versions, the numbers
of ports, pins, domains, slots and priorities (Table 0-3), and the two levels of a wire. -/

namespace Sys2Proof

/-- A byte: a value, a token, a serial, a code (Table 11-5). -/
abbrev Byte := BitVec 8

/-- A 16-bit quantity: an id (R5) or a version (R26). -/
abbrev Half := BitVec 16

/-- A link port LP0 to LP5. -/
abbrev Port := Fin 6

/-- A general-purpose pin GP0 to GP15. -/
abbrev Pin := Fin 16

/-- A reset domain D0 to D7. -/
abbrev Dom := Fin 8

/-- A slot of the Record Table, 0 to 127 (R1). -/
abbrev SlotNo := Fin 128

/-- A priority, 0 (highest) to 7 (lowest) (R42). -/
abbrev Prio := Fin 8

/-- A deadline class 0 (none) to 6 (R42, Table 5-1). -/
abbrev DeadlineClass := Fin 7

/-- The level of a wire (R109). -/
inductive Level where
  | low
  | high
deriving DecidableEq, Repr, Inhabited

/-- What the board outside the FM-608 does at the sixteen pins at the moment of a sample: a level it drives, or nothing. -/
abbrev Board := Vector (Option Level) 16

end Sys2Proof
end

