-- ==== Sys2Proof/Config.lean ====
section
/-! DEFINITION. The sizes the manual fixes (Table 0-3) and the one value it leaves open: the level sampled at a pin that
nothing drives, or that the part and the board drive against each other. -/

namespace Sys2Proof

/-- Slots 20 to 127 are the user slots (section 1.1). -/
def Config.firstUserSlot : Nat := 20

/-- The Subscription Pool holds 192 entries (R41). -/
def Config.poolSize : Nat := 192

/-- A submit queue holds at most 4 commands (R124). -/
def Config.submitDepth : Nat := 4

/-- An answer queue holds at most 8 answers (R124). -/
def Config.answerDepth : Nat := 8

/-- A frame body holds at most 40 bytes (section 8.2). -/
def Config.maxBody : Nat := 40

/-- FREE VALUE (assumption 5). The level found at a pin when nothing drives it, or when the part's own driver and the
board drive it to different levels. The manual (R111) gives neither level, so nothing is known of it: the first argument
is the number of the sample, the second the pin. -/
opaque Config.freeLevel : Nat → Pin → Level

end Sys2Proof
end

