-- ==== Sys2Proof/Syntax.lean ====
section
/-! DEFINITION. The commands of the FM-608. `Command` is what a SUBMIT frame carries (Table 11-6); `Instr` has one
constructor per row of spec/opcode_table.json: the steps of the part, each whole and indivisible. -/

namespace Sys2Proof

/-- A handle as a master supplies it: any slot number 0 to 255 and a generation (section 1.2). -/
structure Handle where
  slot : Byte
  gen : Byte
deriving DecidableEq, Repr

/-- The 23 commands of Table 9-3 with their parameters as the bytes of Table 11-6. The values are checked by the engine,
not here (R132, R162). -/
inductive Command where
  | declare (id : Half) (kind init dflt dom policy : Byte)
  | retire (h : Handle)
  | claim (h : Handle)
  | lookup (id : Half)
  | lock (h : Handle)
  | set (h : Handle) (value : Byte)
  | setIf (h : Handle) (expected : Half) (value : Byte)
  | raise (h : Handle) (amount : Byte)
  | read (h : Handle)
  | readGroup (hs : List Handle)
  | subscribe (h : Handle) (prio cond matchValue mode cls attrs : Byte)
  | unsubscribe (h : Handle)
  | acquire
  | release (h : Handle)
  | releaseTop
  | threshold (t : Byte)
  | serviceList
  | domainReset (dom mode timeout : Byte)
  | domainRelease (dom : Byte)
  | bindPin (pin : Byte) (h : Handle) (dir active filter : Byte)
  | unbindPin (pin : Byte)
  | pinQuery (pin : Byte)
  | evict (port : Byte)
deriving DecidableEq, Repr

/-- The names of the 23 commands, as an answer carries them (R147). -/
inductive Opcode where
  | declare | retire | claim | lookup | lock
  | set | setIf | raise | read | readGroup
  | subscribe | unsubscribe
  | acquire | release | releaseTop | threshold | serviceList
  | domainReset | domainRelease
  | bindPin | unbindPin | pinQuery
  | evict
deriving DecidableEq, Repr

/-- The command a set of parameters belongs to. -/
def Command.opcode : Command → Opcode
  | .declare .. => .declare
  | .retire _ => .retire
  | .claim _ => .claim
  | .lookup _ => .lookup
  | .lock _ => .lock
  | .set .. => .set
  | .setIf .. => .setIf
  | .raise .. => .raise
  | .read _ => .read
  | .readGroup _ => .readGroup
  | .subscribe .. => .subscribe
  | .unsubscribe _ => .unsubscribe
  | .acquire => .acquire
  | .release _ => .release
  | .releaseTop => .releaseTop
  | .threshold _ => .threshold
  | .serviceList => .serviceList
  | .domainReset .. => .domainReset
  | .domainRelease _ => .domainRelease
  | .bindPin .. => .bindPin
  | .unbindPin _ => .unbindPin
  | .pinQuery _ => .pinQuery
  | .evict _ => .evict

/-- The three ways a master frame is a bad frame (R128). -/
inductive BadForm where
  /-- SEL# went high before the CRC byte had been received -/
  | cutShort
  /-- the second byte carried a body length above 40 -/
  | overLong
  /-- the CRC byte is not the CRC-8 of the bytes before it -/
  | badCrc
deriving DecidableEq, Repr

/-- One constructor per row of spec/opcode_table.json. A frame row carries the port and the body bytes; a sampling row
carries what the board drives at the pins; a row by which the engine takes a request names the request: the port whose
submit queue holds the command (its parameters stand in the queue, R133), or the flag that is raised. -/
inductive Instr where
  /-- RST# goes low (R11) -/
  | coldReset
  /-- RST# is released with the board's levels at the pins (R110, R125) -/
  | resetRelease (board : Board)
  /-- the REFCLK divider passes from 31 to 0 (R81) -/
  | tick (board : Board)
  /-- the filter of a pin accepts a level (R117) -/
  | filterAccept (g : Pin)
  /-- the deadline timer of (p, k) reaches 0 (R85) -/
  | deadlineTimerRunOut (p : Port) (k : Prio)
  /-- the warning timer of d reaches 0 (R91) -/
  | warningTimerRunOut (d : Dom)
  /-- the five known frames, taken with a good CRC (R131, R132, R135, R136, R137) -/
  | hello (p : Port) (body : List Byte)
  | submit (p : Port) (body : List Byte)
  | pull (p : Port) (body : List Byte)
  | resetLink (p : Port) (body : List Byte)
  | peek (p : Port) (body : List Byte)
  /-- a bad frame (R128) -/
  | badFrame (p : Port) (form : BadForm)
  /-- a frame with a good CRC and an unknown kind byte (R128) -/
  | unknownKindFrame (p : Port) (kind : Byte) (body : List Byte)
  /-- deliveries of the engine that arrive at a port (R134, R141, R139, R140) -/
  | answerArrival (p : Port)
  | eligibleIndication (p : Port)
  | evictRequest (p : Port)
  | teardownCompletion (p : Port)
  /-- internal requests the engine takes (R151, R138, R87, R102, R119) -/
  | teardownRequest (p : Port)
  | linkNotice (p : Port)
  | deadlineExpiryRequest (p : Port) (k : Prio)
  | warningExpiryRequest (d : Dom)
  | pinUpdateRequest (g : Pin)
  /-- port commands the engine takes from the head of a submit queue (R145) -/
  | declare (p : Port)
  | retire (p : Port)
  | claim (p : Port)
  | lookup (p : Port)
  | lock (p : Port)
  | set (p : Port)
  | setIf (p : Port)
  | raise (p : Port)
  | read (p : Port)
  | readGroup (p : Port)
  | subscribe (p : Port)
  | unsubscribe (p : Port)
  | acquire (p : Port)
  | release (p : Port)
  | releaseTop (p : Port)
  | threshold (p : Port)
  | serviceList (p : Port)
  | domainReset (p : Port)
  | domainRelease (p : Port)
  /-- BIND_PIN samples the pin at once (R114): `found` is what the board drives at the pin named -/
  | bindPin (p : Port) (found : Option Level)
  | unbindPin (p : Port)
  | pinQuery (p : Port)
  | evict (p : Port)
  /-- a rising edge of REFCLK that is no tick (R81) -/
  | refclkRisingEdge
deriving DecidableEq, Repr

end Sys2Proof
end

