-- ==== Sys2Proof/Decode.lean ====
section
/-! DEFINITION. Frames and bodies as bytes (Chapter 11): the CRC-8, the codes, the decoder of one selection into a row,
the decoder of a SUBMIT body into a command, and their encoders. The opcode table gives no row any bits, so
`decodeTableWord` reads none. -/

namespace Sys2Proof

/-! ## Bytes -/

/-- The more significant byte of a 16-bit value. -/
def hiByte (w : Half) : Byte := w.extractLsb' 8 8

/-- The less significant byte of a 16-bit value. -/
def loByte (w : Half) : Byte := w.extractLsb' 0 8

/-- A 16-bit value as it is sent: most significant byte first (R162, R164). -/
def halfBytes (w : Half) : List Byte := [hiByte w, loByte w]

/-- The 16-bit value two received bytes stand for, most significant first (R162). -/
def halfOf (hi lo : Byte) : Half := hi ++ lo

/-! ## CRC-8 (R161) -/

/-- One shift of the CRC register: left one place, combined with 07H where the bit shifted out was 1. -/
def crcShift (r : Byte) : Byte := if r.msb then (r <<< 1) ^^^ 0x07#8 else r <<< 1

/-- One byte taken into the CRC register. -/
def crcByte (r b : Byte) : Byte :=
  crcShift (crcShift (crcShift (crcShift (crcShift (crcShift (crcShift (crcShift (r ^^^ b))))))))

/-- The CRC-8 of a run of bytes, from the register value FFH. -/
def crc8 (bytes : List Byte) : Byte := bytes.foldl crcByte 0xFF#8

/-- A whole frame: code, body length, body, CRC-8 (Table 11-1). -/
def frameBytes (code : Byte) (body : List Byte) : List Byte :=
  let front := code :: BitVec.ofNat 8 body.length :: body
  front ++ [crc8 front]

/-! ## Codes -/

/-- The known frame kinds (Table 11-3). -/
inductive FrameKind where
  | hello | submit | pull | resetLink | peek
deriving DecidableEq, Repr

/-- Table 11-3, left half. -/
def frameKindCode : FrameKind → Byte
  | .hello => 0xC1#8
  | .submit => 0xC2#8
  | .pull => 0xC3#8
  | .resetLink => 0xC4#8
  | .peek => 0xC5#8

/-- The kind a first byte names, if it names one (R128). -/
def frameKindOf (b : Byte) : Option FrameKind :=
  if b = 0xC1#8 then some .hello
  else if b = 0xC2#8 then some .submit
  else if b = 0xC3#8 then some .pull
  else if b = 0xC4#8 then some .resetLink
  else if b = 0xC5#8 then some .peek
  else none

/-- The reply codes of the link (Table 11-3, right half). -/
inductive ReplyCode where
  | accepted | full | badState | closing | badFrame | malformed | helloOk | resetOk | answer | empty | peek
deriving DecidableEq, Repr

/-- Table 11-3, right half. -/
def replyCodeByte : ReplyCode → Byte
  | .accepted => 0x81#8
  | .full => 0x82#8
  | .badState => 0x83#8
  | .closing => 0x84#8
  | .badFrame => 0x85#8
  | .malformed => 0x86#8
  | .helloOk => 0x87#8
  | .resetOk => 0x88#8
  | .answer => 0x89#8
  | .empty => 0x8A#8
  | .peek => 0x8B#8

/-- The answer statuses of Table 9-4. -/
inductive Status where
  | ok | unchanged | none | started | retiring
  | badParam | notFound | stale | draining | idInUse | tableFull | poolFull | notOwner | owned | locked | denied
  | domainHeld | conflict | inService | notSubscribed | notInService | busy | already | bound | notBound | notOpen
deriving DecidableEq, Repr

/-- Table 11-4. -/
def statusByte : Status → Byte
  | .ok => 0x00#8
  | .unchanged => 0x01#8
  | .none => 0x02#8
  | .started => 0x03#8
  | .retiring => 0x04#8
  | .badParam => 0x20#8
  | .notFound => 0x21#8
  | .stale => 0x22#8
  | .draining => 0x23#8
  | .idInUse => 0x24#8
  | .tableFull => 0x25#8
  | .poolFull => 0x26#8
  | .notOwner => 0x27#8
  | .owned => 0x28#8
  | .locked => 0x29#8
  | .denied => 0x2A#8
  | .domainHeld => 0x2B#8
  | .conflict => 0x2C#8
  | .inService => 0x2D#8
  | .notSubscribed => 0x2E#8
  | .notInService => 0x2F#8
  | .busy => 0x30#8
  | .already => 0x31#8
  | .bound => 0x32#8
  | .notBound => 0x33#8
  | .notOpen => 0x34#8

/-- The command codes of Table 11-6. -/
def opcodeByte : Opcode → Byte
  | .declare => 0x11#8
  | .retire => 0x12#8
  | .claim => 0x13#8
  | .lookup => 0x14#8
  | .lock => 0x15#8
  | .set => 0x21#8
  | .setIf => 0x22#8
  | .raise => 0x23#8
  | .read => 0x24#8
  | .readGroup => 0x25#8
  | .subscribe => 0x31#8
  | .unsubscribe => 0x32#8
  | .acquire => 0x41#8
  | .release => 0x42#8
  | .releaseTop => 0x43#8
  | .threshold => 0x44#8
  | .serviceList => 0x45#8
  | .domainReset => 0x51#8
  | .domainRelease => 0x52#8
  | .bindPin => 0x61#8
  | .unbindPin => 0x62#8
  | .pinQuery => 0x63#8
  | .evict => 0x71#8

/-- Every command name, in the order of Table 11-6. -/
def allOpcodes : List Opcode :=
  [.declare, .retire, .claim, .lookup, .lock, .set, .setIf, .raise, .read, .readGroup, .subscribe, .unsubscribe,
   .acquire, .release, .releaseTop, .threshold, .serviceList, .domainReset, .domainRelease, .bindPin, .unbindPin,
   .pinQuery, .evict]

/-- The command a code byte names, if it names one of the 23 (R132). -/
def opcodeOf (b : Byte) : Option Opcode := allOpcodes.find? fun o => opcodeByte o == b

/-! ## The body of a SUBMIT (Table 11-6, R162) -/

/-- A run of byte pairs as handles; an odd byte at the end names no handle. -/
def handlesOf : List Byte → List Handle
  | a :: b :: rest => ⟨a, b⟩ :: handlesOf rest
  | _ => []

/-- The bytes of one handle: slot number, then generation. -/
def handleBytes (h : Handle) : List Byte := [h.slot, h.gen]

/-- The command a code and its parameter bytes spell; none where the length is not the one the code requires. -/
def decodeParams : Opcode → List Byte → Option Command
  | .declare, [i1, i0, k, v, d, dm, po] => some (.declare (halfOf i1 i0) k v d dm po)
  | .retire, [a, b] => some (.retire ⟨a, b⟩)
  | .claim, [a, b] => some (.claim ⟨a, b⟩)
  | .lookup, [i1, i0] => some (.lookup (halfOf i1 i0))
  | .lock, [a, b] => some (.lock ⟨a, b⟩)
  | .set, [a, b, v] => some (.set ⟨a, b⟩ v)
  | .setIf, [a, b, e1, e0, v] => some (.setIf ⟨a, b⟩ (halfOf e1 e0) v)
  | .raise, [a, b, n] => some (.raise ⟨a, b⟩ n)
  | .read, [a, b] => some (.read ⟨a, b⟩)
  | .readGroup, n :: rest => if rest.length = 2 * n.toNat then some (.readGroup (handlesOf rest)) else none
  | .subscribe, [a, b, pr, c, m, md, cl, att] => some (.subscribe ⟨a, b⟩ pr c m md cl att)
  | .unsubscribe, [a, b] => some (.unsubscribe ⟨a, b⟩)
  | .acquire, [] => some .acquire
  | .release, [a, b] => some (.release ⟨a, b⟩)
  | .releaseTop, [] => some .releaseTop
  | .threshold, [t] => some (.threshold t)
  | .serviceList, [] => some .serviceList
  | .domainReset, [d, m, t] => some (.domainReset d m t)
  | .domainRelease, [d] => some (.domainRelease d)
  | .bindPin, [g, a, b, dr, al, f] => some (.bindPin g ⟨a, b⟩ dr al f)
  | .unbindPin, [g] => some (.unbindPin g)
  | .pinQuery, [g] => some (.pinQuery g)
  | .evict, [q] => some (.evict q)
  | _, _ => none

/-- A SUBMIT body: the tag and the command, or none where the form check of R132 fails. -/
def decodeSubmit : List Byte → Option (Byte × Command)
  | tag :: code :: params =>
    match opcodeOf code with
    | some o => (decodeParams o params).map fun c => (tag, c)
    | none => none
  | _ => none

/-- The parameter bytes of a command in the order of Table 11-6. -/
def encodeParams : Command → List Byte
  | .declare id k v d dm po => halfBytes id ++ [k, v, d, dm, po]
  | .retire h => handleBytes h
  | .claim h => handleBytes h
  | .lookup id => halfBytes id
  | .lock h => handleBytes h
  | .set h v => handleBytes h ++ [v]
  | .setIf h e v => handleBytes h ++ halfBytes e ++ [v]
  | .raise h n => handleBytes h ++ [n]
  | .read h => handleBytes h
  | .readGroup hs => BitVec.ofNat 8 hs.length :: hs.flatMap handleBytes
  | .subscribe h pr c m md cl att => handleBytes h ++ [pr, c, m, md, cl, att]
  | .unsubscribe h => handleBytes h
  | .acquire => []
  | .release h => handleBytes h
  | .releaseTop => []
  | .threshold t => [t]
  | .serviceList => []
  | .domainReset d m t => [d, m, t]
  | .domainRelease d => [d]
  | .bindPin g h dr al f => g :: handleBytes h ++ [dr, al, f]
  | .unbindPin g => [g]
  | .pinQuery g => [g]
  | .evict q => [q]

/-- The SUBMIT body of a tag and a command. -/
def encodeSubmit (tag : Byte) (c : Command) : List Byte := tag :: opcodeByte c.opcode :: encodeParams c

/-! ## One selection -/

/-- The row that the bytes shifted in during one selection stand for, checked in the order of R128: the envelope, the
CRC, the kind. Bytes after the CRC byte are ignored (R127). -/
def decodeSelection (p : Port) (bytes : List Byte) : Instr :=
  match bytes with
  | code :: len :: rest =>
    if Config.maxBody < len.toNat then .badFrame p .overLong
    else
      match rest.drop len.toNat with
      | [] => .badFrame p .cutShort
      | crc :: _ =>
        let body := rest.take len.toNat
        if crc ≠ crc8 (code :: len :: body) then .badFrame p .badCrc
        else
          match frameKindOf code with
          | some .hello => .hello p body
          | some .submit => .submit p body
          | some .pull => .pull p body
          | some .resetLink => .resetLink p body
          | some .peek => .peek p body
          | none => .unknownKindFrame p code body
  | _ => .badFrame p .cutShort

/-- The bytes by which a master sends a frame row with a good CRC; none for the rows that are no such frame. -/
def selectionBytes : Instr → Option (List Byte)
  | .hello _ body => some (frameBytes (frameKindCode .hello) body)
  | .submit _ body => some (frameBytes (frameKindCode .submit) body)
  | .pull _ body => some (frameBytes (frameKindCode .pull) body)
  | .resetLink _ body => some (frameBytes (frameKindCode .resetLink) body)
  | .peek _ body => some (frameBytes (frameKindCode .peek) body)
  | .unknownKindFrame _ kind body => some (frameBytes kind body)
  | .coldReset | .resetRelease _ | .tick _ | .filterAccept _ | .deadlineTimerRunOut _ _ | .warningTimerRunOut _
  | .badFrame _ _ | .answerArrival _ | .eligibleIndication _ | .evictRequest _ | .teardownCompletion _
  | .teardownRequest _ | .linkNotice _ | .deadlineExpiryRequest _ _ | .warningExpiryRequest _ | .pinUpdateRequest _
  | .declare _ | .retire _ | .claim _ | .lookup _ | .lock _ | .set _ | .setIf _ | .raise _ | .read _ | .readGroup _
  | .subscribe _ | .unsubscribe _ | .acquire _ | .release _ | .releaseTop _ | .threshold _ | .serviceList _
  | .domainReset _ | .domainRelease _ | .bindPin _ _ | .unbindPin _ | .pinQuery _ | .evict _ | .refclkRisingEdge => none

/-- The opcode table of this block gives no row any bits ("fields": [] in every row), so no word spells a command. -/
def decodeTableWord (_nbits _w : Nat) : Option Instr := none

end Sys2Proof
end

