-- ==== Sys2Proof/Machine/State.lean ====
section
/-! DEFINITION. The state of the FM-608 as plain data: the link ports (Table 8-2), the Directory Engine's Record Table,
Id Map, service state, Domain Table and bindings, the Timer Unit's divider, timers and flags, the Pin Bridge's pins
(Table 7-1), the arbiter's last-served port and its choice, the deliveries on their way to the ports, and the queue of the commands
that are waiting. Then the reasons a step can stop, and the state in cold reset. -/

namespace Sys2Proof.Machine

open Sys2Proof

/-! ## Records and subscriptions (Chapters 1 and 3) -/

/-- A record is a level or a count of raises (Table 1-5). -/
inductive Kind where
  | level
  | event
deriving DecidableEq, Repr

/-- The state of a slot that holds a record; a FREE slot holds none (R1). -/
inductive RecState where
  | live
  | draining
deriving DecidableEq, Repr

/-- The owner of a record (R4). -/
inductive Owner where
  | port (p : Port)
  | pin (g : Pin)
  | system
  | nobody
deriving DecidableEq, Repr

/-- The orphan policy chosen at DECLARE (section 10.4). -/
inductive Policy where
  | retain
  | toDefault
  | retire
deriving DecidableEq, Repr

/-- The condition of a subscription; the match value is kept with EQUAL alone (R44). -/
inductive Cond where
  | any
  | rise
  | fall
  | equal (matchValue : Byte)
  | each
deriving DecidableEq, Repr

/-- The mode of a subscription (section 3.2). -/
inductive Mode where
  | latched
  | held
deriving DecidableEq, Repr

/-- The pending mark of a subscription: its count, 1 to 15, and its snap (R42, R54). -/
structure Mark where
  count : Fin 16
  snap : Byte
deriving DecidableEq, Repr

/-- A subscription of one port on one record (Table 3-1). The port and the record are its place; it is pending while it
has a mark. Its service entry stands in its port's service list (`Entry`). -/
structure Sub where
  priority : Prio
  cond : Cond
  mode : Mode
  cls : DeadlineClass
  keep : Bool
  guard : Bool
  mark : Option Mark
deriving DecidableEq, Repr

/-- A LIVE or DRAINING record (Table 1-5). `dflt` and `policy` are absent where the table gives none. `subs` is the
record's subscription list in ascending port order (R43). The binding is kept at its pin (R109: one and the same). -/
structure Record where
  state : RecState
  id : Half
  kind : Kind
  value : Byte
  version : Half
  dflt : Option Byte
  domain : Option Dom
  owner : Owner
  policy : Option Policy
  locked : Bool
  subs : Vector (Option Sub) 6
deriving DecidableEq, Repr

/-- A slot of the Record Table: its generation, and its record unless it is FREE (R2, R3). -/
structure Slot where
  gen : Byte
  record : Option Record
deriving DecidableEq, Repr

/-! ## Service state (Chapter 4) -/

/-- A service entry: the slot of its subscription's record, its token and its OVERDUE mark (R61). -/
structure Entry where
  slot : SlotNo
  token : Byte
  overdue : Bool
deriving DecidableEq, Repr

/-- The service state of one port (Table 4-1); the list is oldest first. -/
structure Service where
  list : List Entry
  threshold : Fin 9
  rotation : Vector SlotNo 8
  tokenCounter : Byte
deriving DecidableEq, Repr

/-! ## Timer Unit (Chapter 5) -/

/-- What a RUNNING deadline timer of (p, k) holds (R83). `remaining` is 0 only between the tick that brought it there and
the run-out that belongs to that tick (R85). -/
structure DeadlineTimer where
  slot : SlotNo
  token : Byte
  remaining : Nat
deriving DecidableEq, Repr

/-- What a raised deadline expiry flag of (p, k) carries beside the port (R83). -/
structure DeadlineFlag where
  slot : SlotNo
  token : Byte
deriving DecidableEq, Repr

/-- One of the 48 deadline timers, IDLE where `timer` is none, with its flag (R83). -/
structure DeadlineUnit where
  timer : Option DeadlineTimer
  flag : Option DeadlineFlag
deriving DecidableEq, Repr

/-- What a RUNNING warning timer holds (R91). -/
structure WarningTimer where
  serial : Byte
  remaining : Nat
deriving DecidableEq, Repr

/-- One of the 8 warning timers with its flag, which carries the serial beside the domain (R91). -/
structure WarningUnit where
  timer : Option WarningTimer
  flag : Option Byte
deriving DecidableEq, Repr

/-! ## Domain Table (Chapter 6) -/

/-- The state of a domain (Table 6-2). -/
inductive DomState where
  | run
  | warning
  | held
deriving DecidableEq, Repr

/-- An entry of the Domain Table (Table 6-1). -/
structure DomainEntry where
  state : DomState
  awaited : Vector Bool 6
  serial : Byte
  timeout : Byte
deriving DecidableEq, Repr

/-! ## Pins (Chapter 7) -/

/-- The direction of a binding; the filter value is kept for INPUT alone (R115). -/
inductive Direction where
  | input (filter : Fin 16)
  | output
deriving DecidableEq, Repr

/-- A binding of a pin to a record (Table 7-1). -/
structure Binding where
  slot : SlotNo
  dir : Direction
  active : Level
  serial : Byte
deriving DecidableEq, Repr

/-- The output driver of a pin (Table 7-1). -/
inductive Driver where
  | highZ
  | driving (l : Level)
deriving DecidableEq, Repr

/-- The input filter of an INPUT-bound pin: accepted level and count. `due` stands from the sample that meets a differing
level with the count at the filter value until the acceptance that belongs to that sample (R117). -/
structure InputFilter where
  accepted : Level
  count : Fin 16
  due : Bool
deriving DecidableEq, Repr

/-- The state of one GP pin (Table 7-1). -/
structure PinState where
  raw : Level
  input : Option InputFilter
  driver : Driver
  flag : Option Byte
  binding : Option Binding
  serialCounter : Byte
deriving DecidableEq, Repr

/-! ## Link ports (Chapter 8) -/

/-- The class of a port (R110). -/
inductive PortClass where
  | member
  | control
deriving DecidableEq, Repr

/-- Why a port left OPEN (R130). -/
inductive Cause where
  | reset
  | fault
  | evict
deriving DecidableEq, Repr

/-- The link state of a port; the closing cause is present in CLOSING alone (Table 8-2). -/
inductive LinkState where
  | off
  | closed
  | opened
  | closing (cause : Cause)
  | faulted
deriving DecidableEq, Repr

/-- The LINK value a link notice carries: 0, 1 or 2 (R138). -/
inductive NoticeValue where
  | closed
  | opened
  | faulted
deriving DecidableEq, Repr

/-- A command waiting in a submit queue with its master's tag (R132). -/
structure Queued where
  tag : Byte
  command : Command
deriving DecidableEq, Repr

/-- An answer: tag, command, status and the field bytes as the engine laid them out (R147, R164). -/
structure Answer where
  tag : Byte
  code : Opcode
  status : Status
  fields : List Byte
deriving DecidableEq, Repr

/-- The state of one link port (Table 8-2); the deliveries of the engine that have not yet arrived at it (R143, section
8.9); and `reply`, the reply frame it shifts out for the last frame it took, none where it sends none. -/
structure PortState where
  enabled : Bool
  cls : PortClass
  link : LinkState
  badCount : Fin 5
  submit : List Queued
  answers : List Answer
  outstanding : Option (BitVec 4)
  nextSeq : BitVec 4
  eligible : Bool
  notice : Option NoticeValue
  teardown : Bool
  inAnswer : Option Answer
  inIndication : Option Bool
  inEvict : Bool
  inCompletion : Bool
  reply : Option (List Byte)
deriving DecidableEq, Repr

/-! ## The arbiter (section 9.1) -/

/-- A request as the engine takes it, with what its flag carried, or the command with its tag, at the moment of the choice
(R143, R144). -/
inductive Taking where
  | teardown (p : Port)
  | notice (p : Port) (v : NoticeValue)
  | deadline (p : Port) (k : Prio) (f : DeadlineFlag)
  | warning (d : Dom) (serial : Byte)
  | pinUpdate (g : Pin) (serial : Byte)
  | command (p : Port) (q : Queued)
deriving DecidableEq, Repr

/-! ## The machine -/

/-- Everything the FM-608 holds. `taking` is the request that a tick found chosen and not yet carried out (assumption 19).
`pending` is the queue of the steps that are waiting, first in, first out; `samples`
counts the samplings, so that each reads a fresh free level (the model's own two fields). -/
structure State where
  pending : List Instr
  rstLow : Bool
  divider : Fin 32
  deadlines : Vector (Vector DeadlineUnit 8) 6
  warnings : Vector WarningUnit 8
  slots : Vector Slot 128
  idMap : List (Half × SlotNo)
  services : Vector Service 6
  domains : Vector DomainEntry 8
  pins : Vector PinState 16
  ports : Vector PortState 6
  lastServed : Port
  taking : Option Taking
  samples : Nat
deriving DecidableEq, Repr

/-- The manual gives every step an outcome at which the part goes on, so no step faults and this type has no
constructor. -/
inductive Fault
deriving DecidableEq, Repr

/-- Why a step is refused. -/
inductive Refusal where
  /-- raised by exec's arm of a row that has no meaning yet (none is left); safe: a run stops there -/
  | notModelled (mnemonic : String)
deriving DecidableEq, Repr

/-! ## Cold reset -/

/-- A FREE slot with generation 0 (R11). -/
def Slot.cold : Slot := { gen := 0#8, record := none }

/-- A port's service state in cold reset (Table 4-1). -/
def Service.cold : Service :=
  { list := [], threshold := 8, rotation := Vector.replicate 8 127, tokenCounter := 0#8 }

/-- An IDLE deadline timer with a clear flag (R83). -/
def DeadlineUnit.cold : DeadlineUnit := { timer := none, flag := none }

/-- An IDLE warning timer with a clear flag (R91). -/
def WarningUnit.cold : WarningUnit := { timer := none, flag := none }

/-- A domain in cold reset (Table 6-1). -/
def DomainEntry.cold : DomainEntry :=
  { state := .run, awaited := Vector.replicate 6 false, serial := 0#8, timeout := 0#8 }

/-- A pin in cold reset (Table 7-1). The raw level is taken at the RST# release sample; LOW until then is a DESIGN CHOICE
(assumption 2). -/
def PinState.cold : PinState :=
  { raw := .low, input := none, driver := .highZ, flag := none, binding := none, serialCounter := 0#8 }

/-- A port in cold reset (Table 8-2). Enabled, class and link state are taken from the straps at RST# release; disabled,
MEMBER and OFF until then are a DESIGN CHOICE (assumption 2). -/
def PortState.cold : PortState :=
  { enabled := false, cls := .member, link := .off, badCount := 0, submit := [], answers := [], outstanding := none,
    nextSeq := 0#4, eligible := false, notice := none, teardown := false, inAnswer := none, inIndication := none,
    inEvict := false, inCompletion := false, reply := none }

/-- The machine in cold reset: RST# low and every item at the value the manual gives for cold reset (R11, R61, R81, R83,
R91, R92, R109, R124, R143). The straps are not yet sampled: `resetRelease` is the step that follows. -/
def State.reset : State :=
  { pending := []
    rstLow := true
    divider := 0
    deadlines := Vector.replicate 6 (Vector.replicate 8 DeadlineUnit.cold)
    warnings := Vector.replicate 8 WarningUnit.cold
    slots := Vector.replicate 128 Slot.cold
    idMap := []
    services := Vector.replicate 6 Service.cold
    domains := Vector.replicate 8 DomainEntry.cold
    pins := Vector.replicate 16 PinState.cold
    ports := Vector.replicate 6 PortState.cold
    lastServed := 5
    taking := none
    samples := 0 }

end Sys2Proof.Machine
end

