-- ==== Sys2Proof/Machine/Operands.lean ====
section
/-! DEFINITION. The operands of commands and the fields of answers: the value encodings of Table 11-5 in both directions,
the places of the system records (Table 1-8), the deadline lengths (Table 5-1), and the settings a SUBSCRIBE asks for
(R44, R45, R46). -/

namespace Sys2Proof.Machine

open Sys2Proof

/-! ## Codes read from a command -/

/-- 00H LEVEL, 01H EVENT. -/
def kindOf (b : Byte) : Option Kind :=
  if b = 0x00#8 then some .level else if b = 0x01#8 then some .event else none

/-- 00H RETAIN, 01H DEFAULT, 02H RETIRE. -/
def policyOf (b : Byte) : Option Policy :=
  if b = 0x00#8 then some .retain else if b = 0x01#8 then some .toDefault else if b = 0x02#8 then some .retire else none

/-- 00H to 07H D0 to D7. -/
def domOf (b : Byte) : Option Dom := if h : b.toNat < 8 then some ⟨b.toNat, h⟩ else none

/-- The domain of a declaration: D0 to D7, or FFH for NONE (R12). -/
def recordDomainOf (b : Byte) : Option (Option Dom) :=
  if b = 0xFF#8 then some none else (domOf b).map some

/-- 00H ANY, 01H RISE, 02H FALL, 03H EQUAL, 04H EACH; the match value is kept with EQUAL alone (R44). -/
def condOf (b matchValue : Byte) : Option Cond :=
  if b = 0x00#8 then some .any
  else if b = 0x01#8 then some .rise
  else if b = 0x02#8 then some .fall
  else if b = 0x03#8 then some (.equal matchValue)
  else if b = 0x04#8 then some .each
  else none

/-- 00H LATCHED, 01H HELD. -/
def modeOf (b : Byte) : Option Mode :=
  if b = 0x00#8 then some .latched else if b = 0x01#8 then some .held else none

/-- The mode of a DOMAIN_RESET. -/
inductive ResetMode where
  | warned
  | immediate
deriving DecidableEq, Repr

/-- 00H WARNED, 01H IMMEDIATE. -/
def resetModeOf (b : Byte) : Option ResetMode :=
  if b = 0x00#8 then some .warned else if b = 0x01#8 then some .immediate else none

/-- 00H to 0FH GP0 to GP15. -/
def pinOf (b : Byte) : Option Pin := if h : b.toNat < 16 then some ⟨b.toNat, h⟩ else none

/-- 00H to 05H LP0 to LP5. -/
def portOf (b : Byte) : Option Port := if h : b.toNat < 6 then some ⟨b.toNat, h⟩ else none

/-- 00H to 7FH, the slots of the Record Table (R6). -/
def slotOf (b : Byte) : Option SlotNo := if h : b.toNat < 128 then some ⟨b.toNat, h⟩ else none

/-- 00H LOW, 01H HIGH. -/
def levelOf (b : Byte) : Option Level :=
  if b = 0x00#8 then some .low else if b = 0x01#8 then some .high else none

/-- 00H INPUT with its filter 0 to 15, 01H OUTPUT, whose filter byte is not kept (R113, R115). -/
def directionOf (b filter : Byte) : Option Direction :=
  if b = 0x00#8 then (if h : filter.toNat < 16 then some (.input ⟨filter.toNat, h⟩) else none)
  else if b = 0x01#8 then some .output
  else none

/-! ## Codes sent in an answer or a reply -/

/-- 00H no, 01H yes. -/
def yesNo (b : Bool) : Byte := if b then 0x01#8 else 0x00#8

/-- A small number as a byte. -/
def byteOf (n : Nat) : Byte := BitVec.ofNat 8 n

/-- Every byte of an absent field (R164). -/
def absentByte : Byte := 0xFF#8

/-- 00H LEVEL, 01H EVENT. -/
def kindByte : Kind → Byte
  | .level => 0x00#8
  | .event => 0x01#8

/-- 01H LIVE, 02H DRAINING. -/
def recStateByte : RecState → Byte
  | .live => 0x01#8
  | .draining => 0x02#8

/-- 00H to 07H D0 to D7, FFH NONE. -/
def domainByte : Option Dom → Byte
  | some d => byteOf d
  | none => absentByte

/-- 00H to 05H LP0 to LP5, 10H to 1FH GP0 to GP15, 80H SYSTEM, FFH NONE. -/
def ownerByte : Owner → Byte
  | .port p => byteOf p
  | .pin g => byteOf (16 + g)
  | .system => 0x80#8
  | .nobody => absentByte

/-- 00H RUN, 01H WARNING, 02H HELD: the values of the DOMAIN records as well (Table 6-2). -/
def domStateByte : DomState → Byte
  | .run => 0x00#8
  | .warning => 0x01#8
  | .held => 0x02#8

/-- 00H LOW, 01H HIGH. -/
def levelByte : Level → Byte
  | .low => 0x00#8
  | .high => 0x01#8

/-- 00H INPUT, 01H OUTPUT. -/
def directionByte : Direction → Byte
  | .input _ => 0x00#8
  | .output => 0x01#8

/-- 00H MEMBER, 01H CONTROL. -/
def classByte : PortClass → Byte
  | .member => 0x00#8
  | .control => 0x01#8

/-- 00H CLOSED, 01H OPEN, 02H FAULTED, 03H OFF, 04H CLOSING. -/
def linkByte : LinkState → Byte
  | .closed => 0x00#8
  | .opened => 0x01#8
  | .faulted => 0x02#8
  | .off => 0x03#8
  | .closing _ => 0x04#8

/-- 00H none, 01H RESET, 02H FAULT, 03H EVICT. -/
def causeByte : LinkState → Byte
  | .closing .reset => 0x01#8
  | .closing .fault => 0x02#8
  | .closing .evict => 0x03#8
  | .off | .closed | .opened | .faulted => 0x00#8

/-- A link notice's LINK value (R138). -/
def noticeByte : NoticeValue → Byte
  | .closed => 0x00#8
  | .opened => 0x01#8
  | .faulted => 0x02#8

/-- A port set: bit n set for LPn. -/
def portSetByte (v : Vector Bool 6) : Byte :=
  (List.finRange 6).foldl (fun b p => if v[p] then b ||| (1#8 <<< p.val) else b) 0#8

/-- A handle in an answer: slot number, generation. -/
def handleField (i : SlotNo) (gen : Byte) : List Byte := [byteOf i, gen]

/-! ## System records (Table 1-8) -/

/-- LINK of LPn stands in slot n. -/
def linkSlot (p : Port) : SlotNo := ⟨p.val, by omega⟩

/-- OVERDUE of LPn stands in slot 6 + n. -/
def overdueSlot (p : Port) : SlotNo := ⟨6 + p.val, by omega⟩

/-- DOMAIN of d stands in slot 12 + d. -/
def domainSlot (d : Dom) : SlotNo := ⟨12 + d.val, by omega⟩

/-- The domain whose DOMAIN record a slot holds, if it is one of slots 12 to 19. -/
def domainOfSlot (i : SlotNo) : Option Dom :=
  if h : 12 ≤ i.val ∧ i.val < 20 then some ⟨i.val - 12, by omega⟩ else none

/-- Slots 0 to 19 are the system slots (section 1.1). -/
def isSystemSlot (i : SlotNo) : Bool := i.val < Config.firstUserSlot

/-- The user slots 20 to 127 in ascending order. -/
def userSlots : List SlotNo := (List.finRange 128).filter fun i => !isSystemSlot i

/-! ## Deadlines -/

/-- The length of a deadline class in ticks, none for class 0 (Table 5-1). -/
def deadlineLength : DeadlineClass → Option Nat
  | 0 => none
  | 1 => some 4
  | 2 => some 16
  | 3 => some 64
  | 4 => some 256
  | 5 => some 1024
  | 6 => some 4096

/-! ## What a SUBSCRIBE asks for -/

/-- The kinds, conditions and modes Table 3-2 accepts. -/
def combinationAccepted : Kind → Cond → Mode → Bool
  | .level, .any, .latched => true
  | .level, .any, .held => false
  | .level, .rise, _ => true
  | .level, .fall, _ => true
  | .level, .equal _, _ => true
  | .level, .each, _ => false
  | .event, .each, .latched => true
  | .event, .each, .held => false
  | .event, .any, _ => false
  | .event, .rise, _ => false
  | .event, .fall, _ => false
  | .event, .equal _, _ => false

/-- Bit 0 of the attributes byte is KEEP. -/
def keepOf (attrs : Byte) : Bool := attrs.getLsbD 0

/-- Bit 1 of the attributes byte is GUARD. -/
def guardOf (attrs : Byte) : Bool := attrs.getLsbD 1

/-- Checks 2 and 3 of R46: the subscription, idle and without a mark, that the parameters ask for on slot i holding a
record of the given kind; none where the answer is BAD_PARAM. With GUARD the condition and mode codes are not looked at
and ANY and LATCHED are recorded (R45). -/
def askedSub (i : SlotNo) (kind : Kind) (prio cond matchValue mode cls attrs : Byte) : Option Sub :=
  if hp : prio.toNat < 8 then
    if hc : cls.toNat < 7 then
      if guardOf attrs then
        if (domainOfSlot i).isSome then
          some { priority := ⟨prio.toNat, hp⟩, cond := .any, mode := .latched, cls := ⟨cls.toNat, hc⟩,
                 keep := keepOf attrs, guard := true, mark := none }
        else none
      else
        match condOf cond matchValue, modeOf mode with
        | some c, some m =>
          if combinationAccepted kind c m then
            some { priority := ⟨prio.toNat, hp⟩, cond := c, mode := m, cls := ⟨cls.toNat, hc⟩,
                   keep := keepOf attrs, guard := false, mark := none }
          else none
        | _, _ => none
    else none
  else none

end Sys2Proof.Machine
end

