-- ==== Sys2Proof/Machine/Flags.lean ====
section
/-! DEFINITION. What the part derives and does not store: a subscription's marks under a change (R53 to R56), whether a
subscription is in service or eligible (R62), the ATTN# line (R141), whether the engine is free, and which request the
arbiter takes (R143 to R145). -/

namespace Sys2Proof.Machine

open Sys2Proof

/-! ## Marks -/

/-- A subscription is pending while it has a mark (R42). -/
def isPending : Option Sub → Bool
  | some u => u.mark.isSome
  | none => false

/-- A count of triggers, at most 15 (R54). -/
def satCount (n : Nat) : Fin 16 := ⟨min n 15, by omega⟩

/-- How many triggers a change from `old` to `new` puts on a LATCHED or EACH subscription: one where a LEVEL condition is
met (Table 3-2), the raise amount for EACH (R55). -/
def triggers (c : Cond) (old new : Byte) (amount : Nat) : Nat :=
  match c with
  | .any => 1
  | .rise => if old = 0#8 ∧ new ≠ 0#8 then 1 else 0
  | .fall => if old ≠ 0#8 ∧ new = 0#8 then 1 else 0
  | .equal m => if new = m ∧ old ≠ m then 1 else 0
  | .each => amount

/-- The predicate of a HELD subscription on a value (Table 3-2); ANY and EACH have none. -/
def holds (c : Cond) (v : Byte) : Bool :=
  match c with
  | .any => false
  | .rise => v ≠ 0#8
  | .fall => v = 0#8
  | .equal m => v = m
  | .each => false

/-- The mark after n triggers have fallen on it, the latest leaving the value `new` (R53 to R55). -/
def triggered (m : Option Mark) (n : Nat) (new : Byte) : Option Mark :=
  if n = 0 then m
  else
    match m with
    | none => some { count := satCount n, snap := new }
    | some k => some { count := satCount (k.count.val + n), snap := new }

/-- A subscription after a change of its record: R53 and R55 for LATCHED and EACH, Table 3-3 for HELD. -/
def Sub.afterChange (u : Sub) (serving : Bool) (old new : Byte) (amount : Nat) : Sub :=
  match u.mode with
  | .latched => { u with mark := triggered u.mark (triggers u.cond old new amount) new }
  | .held =>
    if serving then u
    else if holds u.cond new then { u with mark := some { count := 1, snap := new } }
    else { u with mark := none }

/-- A HELD subscription evaluated on a standing value: at creation and replacement (R49), at release (R75), at teardown
(R153). It sets a mark where the predicate holds and none stands; it never withdraws one. -/
def Sub.evaluated (u : Sub) (value : Byte) : Sub :=
  match u.mode with
  | .latched => u
  | .held =>
    if holds u.cond value ∧ u.mark = none then { u with mark := some { count := 1, snap := value } } else u

/-! ## Service and eligibility -/

/-- The subscription of port p on the record in slot i. -/
def State.subAt (s : State) (i : SlotNo) (p : Port) : Option Sub :=
  match s.slots[i].record with
  | some r => r.subs[p]
  | none => none

/-- Port p holds a service entry on slot i. -/
def State.inService (s : State) (p : Port) (i : SlotNo) : Bool := s.services[p].list.any fun e => e.slot = i

/-- The service entry of port p on slot i. -/
def State.entryOn (s : State) (p : Port) (i : SlotNo) : Option Entry :=
  s.services[p].list.find? fun e => e.slot = i

/-- The third condition of R62: the priority number is below that of every entry in p's service list. -/
def State.aboveService (s : State) (p : Port) (k : Prio) : Bool :=
  s.services[p].list.all fun e =>
    match s.subAt e.slot p with
    | some u => k < u.priority
    | none => true

/-- R62 for the subscription of port p on slot i. -/
def State.eligibleAt (s : State) (p : Port) (i : SlotNo) : Bool :=
  match s.subAt i p with
  | some u => u.mark.isSome && u.priority.val < s.services[p].threshold.val && s.aboveService p u.priority
  | none => false

/-- At least one subscription of port p is eligible (R63). -/
def State.anyEligible (s : State) (p : Port) : Bool := (List.finRange 128).any fun i => s.eligibleAt p i

/-- The slots in the order of p's search at one priority: from the slot after the pointer round to the pointer (R66). -/
def rotationOrder (pointer : SlotNo) : List SlotNo :=
  (List.finRange 128).map fun j => pointer + 1 + j

/-- The subscription ACQUIRE takes, named by its slot: the lowest priority number, then the rotation (R66). -/
def State.selected (s : State) (p : Port) : Option SlotNo :=
  (List.finRange 8).findSome? fun k =>
    (rotationOrder s.services[p].rotation[k]).find? fun i =>
      s.eligibleAt p i && ((s.subAt i p).map (·.priority) == some k)

/-- The number of pending subscriptions of port p (R79). -/
def State.pendingCount (s : State) (p : Port) : Nat :=
  (List.finRange 128).countP fun i => isPending (s.subAt i p)

/-- The number of Subscription Pool entries in use (R41). -/
def State.poolInUse (s : State) : Nat :=
  ((List.finRange 128).map fun i => (List.finRange 6).countP fun p => (s.subAt i p).isSome).sum

/-! ## Bindings seen from the record -/

/-- The pin whose binding names slot i (R109: at most one). -/
def State.boundPin (s : State) (i : SlotNo) : Option Pin :=
  (List.finRange 16).find? fun g =>
    match s.pins[g].binding with
    | some b => b.slot = i
    | none => false

/-- The domain of a record is HELD (R33). -/
def State.domainHeld (s : State) (d : Option Dom) : Bool :=
  match d with
  | some d => s.domains[d].state = .held
  | none => false

/-! ## ATTN# -/

/-- ATTN# of port p is asserted (R141). -/
def State.attn (s : State) (p : Port) : Bool :=
  match s.ports[p].link with
  | .opened => !s.ports[p].answers.isEmpty || s.ports[p].eligible
  | .off | .closed | .closing _ | .faulted => false

/-! ## The arbiter -/

/-- A deadline timer stands at 0: its run-out belongs to the tick that brought it there (R85). -/
def DeadlineUnit.runOutDue (u : DeadlineUnit) : Bool :=
  match u.timer with
  | some t => t.remaining = 0
  | none => false

/-- A warning timer stands at 0 (R91). -/
def WarningUnit.runOutDue (u : WarningUnit) : Bool :=
  match u.timer with
  | some t => t.remaining = 0
  | none => false

/-- A filter acceptance belongs to the latest sample and has not yet been made (R117). -/
def PinState.acceptDue (g : PinState) : Bool :=
  match g.input with
  | some f => f.due
  | none => false

/-- Something that belongs to the latest tick has still to happen: a timer's run-out or a filter's acceptance. -/
def State.tickUnfinished (s : State) : Bool :=
  ((List.finRange 6).any fun p => (List.finRange 8).any fun k => (s.deadlines[p][k]).runOutDue)
    || ((List.finRange 8).any fun d => (s.warnings[d]).runOutDue)
    || ((List.finRange 16).any fun g => (s.pins[g]).acceptDue)

/-- A delivery that the latest taking ends with has not yet arrived at the port (R143). A teardown completion is no such
delivery: it may arrive later (R130, R149). -/
def PortState.awaitsDelivery (q : PortState) : Bool := q.inAnswer.isSome || q.inIndication.isSome || q.inEvict

/-- Nothing holds the engine up: RST# is high, every delivery of the latest taking has arrived, and everything of the latest
tick has happened (R143, R85). -/
def State.quiet (s : State) : Bool :=
  !s.rstLow && !s.tickUnfinished && (List.finRange 6).all fun p => !(s.ports[p]).awaitsDelivery

/-- The engine is free to choose: nothing holds it up, and no request is chosen already (R143). -/
def State.engineFree (s : State) : Bool := s.quiet && s.taking.isNone

/-- The raised internal requests in the order of Table 9-1, each with what its flag carries. -/
def State.internalRequests (s : State) : List Taking :=
  ((List.finRange 6).filter fun p => (s.ports[p]).teardown).map .teardown
    ++ (List.finRange 6).filterMap (fun p => (s.ports[p]).notice.map (.notice p))
    ++ ((List.finRange 6).flatMap fun p => (List.finRange 8).filterMap fun k => (s.deadlines[p][k]).flag.map (.deadline p k))
    ++ (List.finRange 8).filterMap (fun d => (s.warnings[d]).flag.map (.warning d))
    ++ (List.finRange 16).filterMap fun g => (s.pins[g]).flag.map (.pinUpdate g)

/-- A port is ready (R145): OPEN, a command waiting, room for the answer. -/
def PortState.ready (q : PortState) : Bool :=
  (q.link = .opened) && !q.submit.isEmpty && decide (q.answers.length < Config.answerDepth)

/-- The ports in the order of the round: from the port after the last-served one round to it (R145). -/
def roundOrder (last : Port) : List Port := (List.finRange 6).map fun j => last + 1 + j

/-- The port command the round finds: that at the head of the first ready port's queue (R145). -/
def State.readyCommand (s : State) : Option Taking :=
  ((roundOrder s.lastServed).find? fun p => (s.ports[p]).ready).bind fun p =>
    (s.ports[p]).submit.head?.map fun q => .command p q

/-- The request a free engine takes: the first raised internal request, else the round's port command (R144, R145). -/
def State.nextRequest (s : State) : Option Taking := s.internalRequests.head? <|> s.readyCommand

/-- What the engine takes now: nothing while something holds it up; else the request chosen already, if one is; else the
arbiter's choice (R143). -/
def State.choice (s : State) : Option Taking :=
  if s.quiet then
    match s.taking with
    | some r => some r
    | none => s.nextRequest
  else none

end Sys2Proof.Machine
end

