-- ==== Sys2Proof/Machine/Ops.lean ====
section
/-! DEFINITION. The named operations over the state that several rows share: the change of a record (R25 to R29),
subscription entries (R51), the Id Map (R5), retirement (R16), the end of a binding (R17, R121), warnings and the sweep
(R100 to R103), the taking of a request and of a port command (R143 to R148), and the closing of a link (R130). The
FM-608 has no exception entry; an expiry or a loss of link is a raised request flag. -/

namespace Sys2Proof.Machine

open Sys2Proof

/-! ## Parts of the state -/

/-- Alter the state of one port. -/
def State.modPort (s : State) (p : Port) (f : PortState → PortState) : State :=
  { s with ports := s.ports.set p (f s.ports[p]) }

/-- Alter the state of one pin. -/
def State.modPin (s : State) (g : Pin) (f : PinState → PinState) : State :=
  { s with pins := s.pins.set g (f s.pins[g]) }

/-- Alter the service state of one port. -/
def State.modService (s : State) (p : Port) (f : Service → Service) : State :=
  { s with services := s.services.set p (f s.services[p]) }

/-- Alter one entry of the Domain Table. -/
def State.modDomain (s : State) (d : Dom) (f : DomainEntry → DomainEntry) : State :=
  { s with domains := s.domains.set d (f s.domains[d]) }

/-- Alter the deadline timer and flag of (p, k). -/
def State.modDeadline (s : State) (p : Port) (k : Prio) (f : DeadlineUnit → DeadlineUnit) : State :=
  { s with deadlines := s.deadlines.set p (s.deadlines[p].set k (f s.deadlines[p][k])) }

/-- Alter the warning timer and flag of d. -/
def State.modWarning (s : State) (d : Dom) (f : WarningUnit → WarningUnit) : State :=
  { s with warnings := s.warnings.set d (f s.warnings[d]) }

/-- Alter the record of a slot; a FREE slot stays as it is. -/
def State.modRecord (s : State) (i : SlotNo) (f : Record → Record) : State :=
  { s with slots := s.slots.set i { s.slots[i] with record := s.slots[i].record.map f } }

/-! ## Eligible indications (R58, R63) -/

/-- The happening altered what port p's indication depends on: an indication is owed. Its value is filled in at the end
of the happening by `sendIndications`. -/
def State.owe (s : State) (p : Port) : State := s.modPort p fun q => { q with inIndication := some false }

/-- Indications are owed to every port the predicate names. -/
def State.oweWhere (s : State) (altered : Port → Bool) : State :=
  { s with ports := Vector.ofFn fun p : Port =>
      if altered p = true then { s.ports[p] with inIndication := some false } else s.ports[p] }

/-- The end of a happening: each owed indication is sent with the value the happening leaves (R63). -/
def State.sendIndications (s : State) : State :=
  { s with ports := Vector.ofFn fun p : Port =>
      { s.ports[p] with inIndication := s.ports[p].inIndication.map fun _ => s.anyEligible p } }

/-! ## Output drive (R116) -/

/-- The level a pin of the given active level is driven at for a value: active while the value is nonzero. -/
def driveLevel (active : Level) (value : Byte) : Level :=
  match active with
  | .high => if value = 0#8 then .low else .high
  | .low => if value = 0#8 then .high else .low

/-- The new value of slot i is handed to the Pin Bridge: an OUTPUT-bound pin follows it (R28). -/
def State.drivePin (s : State) (i : SlotNo) (value : Byte) : State :=
  match s.boundPin i with
  | none => s
  | some g =>
    match s.pins[g].binding with
    | none => s
    | some b =>
      match b.dir with
      | .input _ => s
      | .output => s.modPin g fun x => { x with driver := .driving (driveLevel b.active value) }

/-! ## The change (R25 to R29) -/

/-- A change of the record in slot i to `new`: the version advances, every subscription is evaluated with the old and the
new value, indications are owed where a pending mark came or went, and the value is handed to the Pin Bridge. -/
def State.change (s : State) (i : SlotNo) (new : Byte) (amount : Nat) : State :=
  match s.slots[i].record with
  | none => s
  | some r =>
    let subs' : Vector (Option Sub) 6 := Vector.ofFn fun p : Port =>
      (r.subs[p]).map fun u => u.afterChange (s.inService p i) r.value new amount
    let s1 := s.modRecord i fun r => { r with value := new, version := r.version + 1, subs := subs' }
    let s2 := s1.oweWhere fun p => isPending subs'[p] != isPending r.subs[p]
    s2.drivePin i new

/-- The record in slot i is given a value: a change if it differs, nothing if it is the value held (R27). -/
def State.setValue (s : State) (i : SlotNo) (new : Byte) : State :=
  match s.slots[i].record with
  | none => s
  | some r => if r.value = new then s else s.change i new 0

/-- The value of the record in slot i; 0 for a FREE slot. -/
def State.valueAt (s : State) (i : SlotNo) : Byte :=
  match s.slots[i].record with
  | none => 0#8
  | some r => r.value

/-- The version of the record in slot i; 0 for a FREE slot. -/
def State.versionAt (s : State) (i : SlotNo) : Half :=
  match s.slots[i].record with
  | none => 0#16
  | some r => r.version

/-! ## The Id Map (R5) -/

/-- The map with an entry for an id, in ascending id order. -/
def idInsert (id : Half) (i : SlotNo) : List (Half × SlotNo) → List (Half × SlotNo)
  | [] => [(id, i)]
  | e :: rest => if id.toNat < e.1.toNat then (id, i) :: e :: rest else e :: idInsert id i rest

/-- The map without the entry of an id. -/
def idErase (id : Half) (m : List (Half × SlotNo)) : List (Half × SlotNo) := m.filter fun e => e.1 ≠ id

/-- The slot an id is mapped to. -/
def idFind (id : Half) (m : List (Half × SlotNo)) : Option SlotNo := (m.find? fun e => e.1 = id).map (·.2)

/-- The slot passes to FREE, keeping its generation, and its id leaves the Id Map (R3, R5). -/
def State.freeSlot (s : State) (i : SlotNo) : State :=
  match s.slots[i].record with
  | none => s
  | some r =>
    { s with slots := s.slots.set i { s.slots[i] with record := none }, idMap := idErase r.id s.idMap }

/-! ## Subscription entries (R51, R58) -/

/-- Port p's place on the list of slot i is altered; an indication is owed where the pending mark came or went. -/
def State.updSub (s : State) (i : SlotNo) (p : Port) (f : Option Sub → Option Sub) : State :=
  match s.slots[i].record with
  | none => s
  | some r =>
    let s1 := s.modRecord i fun r => { r with subs := r.subs.set p (f r.subs[p]) }
    if isPending (f r.subs[p]) = isPending r.subs[p] then s1 else s1.owe p

/-- A HELD subscription of port p on slot i is evaluated on the record's present value (R49, R75, R153). -/
def State.heldEvaluation (s : State) (i : SlotNo) (p : Port) : State :=
  s.updSub i p fun o => o.map fun u => u.evaluated (s.valueAt i)

/-- The record holds no subscription. -/
def Record.noSubs (r : Record) : Bool := (List.finRange 6).all fun p => (r.subs[p]).isNone

/-- Port p's subscription leaves the DRAINING record in slot i; the slot passes to FREE when its list is empty (R19). -/
def State.removeDraining (s : State) (i : SlotNo) (p : Port) : State :=
  let s1 := s.updSub i p fun _ => none
  match s1.slots[i].record with
  | none => s1
  | some r => if r.noSubs then s1.freeSlot i else s1

/-! ## Timers (R84, R86, R91) -/

/-- The engine asks for the deadline timer of (p, k); class 0 starts none (R84). -/
def State.startDeadline (s : State) (p : Port) (k : Prio) (i : SlotNo) (token : Byte) (cls : DeadlineClass) : State :=
  match deadlineLength cls with
  | none => s
  | some n => s.modDeadline p k fun u => { u with timer := some { slot := i, token := token, remaining := n } }

/-- The engine asks to cancel the deadline timer of (p, k); the flag stands (R86). -/
def State.cancelDeadline (s : State) (p : Port) (k : Prio) (cls : DeadlineClass) : State :=
  match deadlineLength cls with
  | none => s
  | some _ => s.modDeadline p k fun u => { u with timer := none }

/-- The engine asks for d's warning timer: 16 × u ticks, none for a timeout of 0 (R91). -/
def State.startWarningTimer (s : State) (d : Dom) (serial timeout : Byte) : State :=
  if timeout = 0#8 then s
  else s.modWarning d fun u => { u with timer := some { serial := serial, remaining := 16 * timeout.toNat } }

/-- The engine asks to cancel d's warning timer; the flag stands (R91). -/
def State.cancelWarningTimer (s : State) (d : Dom) : State := s.modWarning d fun u => { u with timer := none }

/-! ## The sweep and the end of a warning (R100 to R103) -/

/-- The default the sweep of d returns this record to: none where the sweep passes over it (R103). -/
def Record.sweepTarget (r : Record) (d : Dom) : Option Byte :=
  if r.state = .live ∧ r.domain = some d ∧ r.kind = .level ∧ r.locked = false then
    match r.dflt with
    | some v => if r.value = v then none else some v
    | none => none
  else none

/-- The sweep reaches one slot; the count of changed records goes with the state. -/
def State.sweepSlot (d : Dom) (acc : State × Nat) (i : SlotNo) : State × Nat :=
  match acc.1.slots[i].record with
  | none => acc
  | some r =>
    match r.sweepTarget d with
    | none => acc
    | some v => (acc.1.change i v 0, acc.2 + 1)

/-- The sweep of domain d over slots 20 to 127, with the number of records it changed (R103). -/
def State.sweep (s : State) (d : Dom) : State × Nat := userSlots.foldl (State.sweepSlot d) (s, 0)

/-- Domain d, swept, passes to HELD and its DOMAIN record takes 2 (R97, stages 2 and 3). -/
def State.enterHeld (s : State) (d : Dom) : State :=
  (s.modDomain d fun x => { x with state := .held }).setValue (domainSlot d) (domStateByte .held)

/-- A warning of d ends by the stages of R101; the number of records swept goes with the state. -/
def State.endWarning (s : State) (d : Dom) : State × Nat :=
  let s1 := s.cancelWarningTimer d
  let s2 := s1.modDomain d fun x => { x with awaited := Vector.replicate 6 false }
  let sw := s2.sweep d
  ((sw.1.modDomain d fun x => { x with timeout := 0#8 }).enterHeld d, sw.2)

/-- No port is awaited. -/
def DomainEntry.noneAwaited (x : DomainEntry) : Bool := (List.finRange 6).all fun p => !x.awaited[p]

/-- Port p leaves d's awaited set if d is in WARNING and p is in it; the warning ends with the last departure (R100). -/
def State.depart (s : State) (d : Dom) (p : Port) : State :=
  if s.domains[d].state = .warning ∧ s.domains[d].awaited[p] = true then
    let s1 := s.modDomain d fun x => { x with awaited := x.awaited.set p false }
    if s1.domains[d].noneAwaited then (s1.endWarning d).1 else s1
  else s

/-- A departure on account of slot i: only a DOMAIN record's slot names a domain. -/
def State.departOn (s : State) (i : SlotNo) (p : Port) : State :=
  match domainOfSlot i with
  | none => s
  | some d => s.depart d p

/-! ## Bindings and retirement (R16, R17, R121) -/

/-- The Pin Bridge is told that a pin's binding has ended: high impedance, no filter; a raised flag stays (R121). -/
def PinState.unbound (x : PinState) : PinState := { x with binding := none, input := none, driver := .highZ }

/-- The binding of slot i ends; a record with an INPUT binding is left owned by NONE (R17, R120). -/
def State.endBinding (s : State) (i : SlotNo) : State :=
  match s.boundPin i with
  | none => s
  | some g =>
    match s.pins[g].binding with
    | none => s
    | some b =>
      let s1 := s.modPin g PinState.unbound
      match b.dir with
      | .input _ => s1.modRecord i fun r => { r with owner := .nobody }
      | .output => s1

/-- Stage 2 of R16 for port p: the pending mark goes. -/
def State.clearMark (s : State) (i : SlotNo) (p : Port) : State :=
  s.updSub i p fun o => o.map fun u => { u with mark := none }

/-- Stage 3 of R16 for port p: an idle subscription goes. -/
def State.dropIdle (s : State) (i : SlotNo) (p : Port) : State :=
  if s.inService p i then s else s.updSub i p fun _ => none

/-- The record in slot i has no subscription left, or the slot is FREE. -/
def State.noSubsAt (s : State) (i : SlotNo) : Bool :=
  match s.slots[i].record with
  | none => true
  | some r => r.noSubs

/-- Retirement of the record in slot i by the stages of R16. -/
def State.retireRecord (s : State) (i : SlotNo) : State :=
  let s1 := s.endBinding i
  let s2 := (List.finRange 6).foldl (fun t p => t.clearMark i p) s1
  let s3 := (List.finRange 6).foldl (fun t p => t.dropIdle i p) s2
  if s3.noSubsAt i then s3.freeSlot i else s3.modRecord i fun r => { r with state := .draining }

/-! ## Pin levels (R111, R114, R119) -/

/-- The level found on a pin: what the board drives; else what the part drives; a free level where neither drives, or
where they drive different levels (assumption 5). -/
def foundLevel (sample : Nat) (g : Pin) (board : Option Level) (driver : Driver) : Level :=
  match driver, board with
  | .highZ, some l => l
  | .highZ, none => Config.freeLevel sample g
  | .driving l, none => l
  | .driving l, some l' => if l = l' then l else Config.freeLevel sample g

/-- The value a level gives an INPUT-bound record: 1 at the active level, 0 otherwise (R114). -/
def inputValue (active accepted : Level) : Byte := if accepted = active then 1#8 else 0#8

/-- The value pin g's accepted level gives its INPUT-bound record, with the slot; none without an INPUT binding. -/
def PinState.applied (x : PinState) : Option (SlotNo × Byte) :=
  match x.binding, x.input with
  | some b, some f =>
    match b.dir with
    | .input _ => some (b.slot, inputValue b.active f.accepted)
    | .output => none
  | _, _ => none

/-! ## Taking a request (R143 to R148) -/

/-- The arbiter chooses a request: its flag is cleared, or the command leaves the head of its submit queue (R144, R145). -/
def State.clearFlag (s : State) (r : Taking) : State :=
  match r with
  | .teardown p => s.modPort p fun q => { q with teardown := false }
  | .notice p _ => s.modPort p fun q => { q with notice := none }
  | .deadline p k _ => s.modDeadline p k fun u => { u with flag := none }
  | .warning d _ => s.modWarning d fun u => { u with flag := none }
  | .pinUpdate g _ => s.modPin g fun x => { x with flag := none }
  | .command p _ => s.modPort p fun q => { q with submit := q.submit.tail }

/-- The engine sets about the request r: chosen now, it loses its flag now; chosen before, it lost it then. -/
def State.taken (s : State) (r : Taking) : State :=
  if s.taking.isSome then { s with taking := none } else s.clearFlag r

/-- A tick falls: a request that stands before a free engine has been chosen by then, and is held as chosen until its row
carries it out (R143, assumption 19). -/
def State.engaged (s : State) : State :=
  if s.taking.isSome then s
  else
    match s.choice with
    | some r => { s.clearFlag r with taking := some r }
    | none => s

/-- The engine takes the request chosen if it is the internal request the row names (`pick` knows it, with what its flag
carried); else the request waits and nothing happens. -/
def State.takeInternal (s : State) (pick : Taking → Option (State → State)) : State :=
  match s.choice with
  | none => s
  | some r =>
    match pick r with
    | none => s
    | some act => (act (s.taken r)).sendIndications

/-- What a command comes to: the state, the answer's status and its fields. -/
structure Done where
  state : State
  status : Status
  fields : List Byte

/-- An outcome that changes nothing at the engine and carries no fields (R6, R148). -/
def refuse (s : State) (status : Status) : Done := { state := s, status := status, fields := [] }

/-- The class check of R148: a MEMBER port is answered DENIED. -/
def controlOnly (s : State) (p : Port) (act : State → Done) : Done :=
  match s.ports[p].cls with
  | .member => refuse s .denied
  | .control => act s

/-- The answer of a command of port p is on its way (R147). -/
def State.sendAnswer (s : State) (p : Port) (a : Answer) : State := s.modPort p fun q => { q with inAnswer := some a }

/-- The state in which the command q of port p, being taken, has its effect: out of its queue, its port the last served
(R133, R145). -/
def State.serving (s : State) (p : Port) (q : Queued) : State := { s.taken (.command p q) with lastServed := p }

/-- The engine takes the command chosen if it is one of port p and the one the row names (`act` knows it); else nothing
happens. -/
def State.takeCommand (s : State) (p : Port) (act : Command → Option (State → Done)) : State :=
  match s.choice with
  | some (.command p' q) =>
    if p' = p then
      match act q.command with
      | none => s
      | some f =>
        let d := f (s.serving p q)
        (d.state.sendAnswer p
          { tag := q.tag, code := q.command.opcode, status := d.status, fields := d.fields }).sendIndications
    else s
  | some _ | none => s

/-! ## Handles (R6) -/

/-- The handle check of R6. `passDraining` is set for READ, READ_GROUP and RELEASE. -/
def State.checkHandle (s : State) (passDraining : Bool) (h : Handle) : Except Status (SlotNo × Record) :=
  match slotOf h.slot with
  | none => .error .badParam
  | some i =>
    match s.slots[i].record with
    | none => .error .stale
    | some r =>
      if s.slots[i].gen ≠ h.gen then .error .stale
      else if r.state = .draining ∧ passDraining = false then .error .draining
      else .ok (i, r)

/-- A command that carries a handle: the handle check, then the command's own part. -/
def State.withHandle (s : State) (passDraining : Bool) (h : Handle) (act : SlotNo → Record → Done) : Done :=
  match s.checkHandle passDraining h with
  | .error e => refuse s e
  | .ok (i, r) => act i r

/-! ## Links (R127, R128, R130) -/

/-- The port takes frames: RST# is high and the port is not OFF (R125, R126). -/
def State.listening (s : State) (p : Port) : Bool := !s.rstLow && decide (s.ports[p].link ≠ .off)

/-- The port sends a reply frame (R163). -/
def PortState.replies (q : PortState) (code : ReplyCode) (body : List Byte) : PortState :=
  { q with reply := some (frameBytes (replyCodeByte code) body) }

/-- A frame with a good CRC sets the bad-frame count to 0 (R128). -/
def PortState.goodFrame (q : PortState) : PortState := { q with badCount := 0 }

/-- The port leaves OPEN by the stages of R130. ATTN# follows from the link state. -/
def PortState.leaveOpen (q : PortState) (c : Cause) : PortState :=
  { q with link := .closing c, submit := [], answers := [], outstanding := none, notice := none, teardown := true }

/-- A frame is taken by a listening port; a port in OFF or in cold reset takes none. -/
def State.takeFrame (s : State) (p : Port) (f : PortState → PortState) : State :=
  if s.listening p then s.modPort p f else s

end Sys2Proof.Machine
end

