-- ==== Sys2Proof/Machine/Requests.lean ====
section
/-! DEFINITION. The internal requests as the engine takes them: teardown in its seven stages (R151 to R159), the link notice
(R138), the deadline expiry (R87), the warning expiry (R102) and the pin update (R119). -/

namespace Sys2Proof.Machine

open Sys2Proof

/-! ## Teardown (Chapter 10) -/

/-- The deadline class and priority of p's subscription on a slot decide which timer is cancelled (R86). -/
def State.cancelFor (s : State) (p : Port) (i : SlotNo) : State :=
  match s.subAt i p with
  | none => s
  | some u => s.cancelDeadline p u.priority u.cls

/-- p's entry on slot i leaves its service list; the others keep their order (R70). -/
def State.removeEntry (s : State) (p : Port) (i : SlotNo) : State :=
  s.modService p fun v => { v with list := v.list.filter fun e => e.slot ≠ i }

/-- The record in slot i is DRAINING. -/
def State.isDraining (s : State) (i : SlotNo) : Bool :=
  match s.slots[i].record with
  | none => false
  | some r => r.state = .draining

/-- The record in slot i is LIVE. -/
def State.isLive (s : State) (i : SlotNo) : Bool :=
  match s.slots[i].record with
  | none => false
  | some r => r.state = .live

/-- One service entry is dropped (R152). -/
def State.dropEntry (p : Port) (s : State) (e : Entry) : State :=
  let s1 := (s.cancelFor p e.slot).removeEntry p e.slot
  if s1.isDraining e.slot then s1.removeDraining e.slot p else s1

/-- Stage 1: every entry of p's service list is dropped, oldest first (R152). -/
def State.dropService (s : State) (p : Port) : State := s.services[p].list.foldl (State.dropEntry p) s

/-- Stage 2 at one slot (R153). -/
def State.settleSub (p : Port) (s : State) (i : SlotNo) : State :=
  if s.isLive i then
    match s.subAt i p with
    | none => s
    | some u => if u.keep then s.heldEvaluation i p else s.updSub i p fun _ => none
  else s

/-- Stage 2: p's subscriptions on LIVE records (R153). -/
def State.settleSubs (s : State) (p : Port) : State := (List.finRange 128).foldl (State.settleSub p) s

/-- Stage 3: threshold 8, rotation pointers 127, token counter 0 (R154). -/
def State.resetAttention (s : State) (p : Port) : State :=
  s.modService p fun v =>
    { v with threshold := Service.cold.threshold, rotation := Service.cold.rotation,
             tokenCounter := Service.cold.tokenCounter }

/-- Stage 4: p leaves every awaited set, in ascending domain order (R155). -/
def State.leaveAwaited (s : State) (p : Port) : State := (List.finRange 8).foldl (fun t d => t.depart d p) s

/-- The orphan policy of one record (R156, R157); DEFAULT moves the value of a LEVEL record alone. -/
def State.orphanRecord (s : State) (i : SlotNo) (r : Record) : State :=
  match r.policy with
  | some .retire => s.retireRecord i
  | some .toDefault =>
    let s1 := s.modRecord i fun r => { r with owner := .nobody }
    match r.kind, r.dflt with
    | .level, some v => s1.setValue i v
    | .level, none | .event, _ => s1
  | some .retain | none => s.modRecord i fun r => { r with owner := .nobody }

/-- Stage 5 at one slot: LIVE, unlocked and owned by p (R156). -/
def State.orphanSlot (p : Port) (s : State) (i : SlotNo) : State :=
  match s.slots[i].record with
  | none => s
  | some r => if r.state = .live ∧ r.owner = .port p ∧ r.locked = false then s.orphanRecord i r else s

/-- Stage 5: the user slots in ascending order (R156). -/
def State.orphanRecords (s : State) (p : Port) : State := userSlots.foldl (State.orphanSlot p) s

/-- The LINK value a teardown leaves: 2 for cause FAULT, 0 otherwise (R158). -/
def teardownLinkValue (l : LinkState) : Byte :=
  match l with
  | .closing .fault => 2#8
  | .closing .reset | .closing .evict | .off | .closed | .opened | .faulted => 0#8

/-- Stage 6: p's OVERDUE record to 0, then its LINK record (R158). -/
def State.settleSystemRecords (s : State) (p : Port) (link : LinkState) : State :=
  (s.setValue (overdueSlot p) 0#8).setValue (linkSlot p) (teardownLinkValue link)

/-- Stage 7: the completion is on its way, and an indication is owed to p (R159). -/
def State.completeTeardown (s : State) (p : Port) : State := (s.modPort p fun q => { q with inCompletion := true }).owe p

/-- The teardown of p by its seven stages (R151). -/
def State.teardown (s : State) (p : Port) : State :=
  ((((((s.dropService p).settleSubs p).resetAttention p).leaveAwaited p).orphanRecords p).settleSystemRecords p
    s.ports[p].link).completeTeardown p

/-- TEARDOWN_REQUEST (R151). -/
def execTeardownRequest (p : Port) (s : State) : Host.Outcome State Fault Refusal :=
  .next (s.takeInternal fun
    | .teardown q => if q = p then some fun t => t.teardown p else none
    | _ => none)

/-! ## The other internal requests -/

/-- LINK_NOTICE: the LINK record of p takes the value the notice carried (R138). -/
def execLinkNotice (p : Port) (s : State) : Host.Outcome State Fault Refusal :=
  .next (s.takeInternal fun
    | .notice q v => if q = p then some fun t => t.setValue (linkSlot p) (noticeByte v) else none
    | _ => none)

/-- The entry of p that a deadline expiry names is marked OVERDUE and the OVERDUE record advances; an expiry that names no
unmarked entry is discarded (R87). -/
def State.expire (s : State) (p : Port) (f : DeadlineFlag) : State :=
  if s.services[p].list.any fun e => e.slot = f.slot ∧ e.token = f.token ∧ e.overdue = false then
    let s1 := s.modService p fun v =>
      { v with list := v.list.map fun e =>
          if e.slot = f.slot ∧ e.token = f.token then { e with overdue := true } else e }
    s1.setValue (overdueSlot p) (s1.valueAt (overdueSlot p) + 1#8)
  else s

/-- DEADLINE_EXPIRY_REQUEST (R87). -/
def execDeadlineExpiryRequest (p : Port) (k : Prio) (s : State) : Host.Outcome State Fault Refusal :=
  .next (s.takeInternal fun
    | .deadline q j f => if q = p ∧ j = k then some fun t => t.expire p f else none
    | _ => none)

/-- A warning expiry of d with this serial: a WARNING with the same serial ends (R102). -/
def State.warningExpires (s : State) (d : Dom) (serial : Byte) : State :=
  if s.domains[d].state = .warning ∧ s.domains[d].serial = serial then (s.endWarning d).1 else s

/-- WARNING_EXPIRY_REQUEST (R102). -/
def execWarningExpiryRequest (d : Dom) (s : State) : Host.Outcome State Fault Refusal :=
  .next (s.takeInternal fun
    | .warning e serial => if e = d then some fun t => t.warningExpires d serial else none
    | _ => none)

/-- The domain of the record in slot i is HELD. -/
def State.heldAt (s : State) (i : SlotNo) : Bool :=
  match s.slots[i].record with
  | none => false
  | some r => s.domainHeld r.domain

/-- The binding of pin g carries this serial. -/
def PinState.serialIs (x : PinState) (serial : Byte) : Bool :=
  match x.binding with
  | none => false
  | some b => b.serial = serial

/-- A pin update of g with this serial: the accepted level is applied to the record if g's INPUT binding carries the serial
and the record's domain is not HELD (R119). -/
def State.pinUpdates (s : State) (g : Pin) (serial : Byte) : State :=
  if s.pins[g].serialIs serial then
    match s.pins[g].applied with
    | none => s
    | some (i, v) => if s.heldAt i then s else s.setValue i v
  else s

/-- PIN_UPDATE_REQUEST (R119). -/
def execPinUpdateRequest (g : Pin) (s : State) : Host.Outcome State Fault Refusal :=
  .next (s.takeInternal fun
    | .pinUpdate h serial => if h = g then some fun t => t.pinUpdates g serial else none
    | _ => none)

end Sys2Proof.Machine
end

