-- ==== Sys2Proof/Machine/Attention.lean ====
section
/-! DEFINITION. The commands of Chapter 4: ACQUIRE (R65 to R69), RELEASE (R71 to R73), RELEASE_TOP (R74), THRESHOLD (R64)
and SERVICE_LIST (R79). -/

namespace Sys2Proof.Machine

open Sys2Proof

/-- The fields of an ACQUIRE answer (Table 4-2). The record's items are those the acquisition leaves; the mark's are those
it took away. -/
def acquireFields (i : SlotNo) (gen : Byte) (r : Record) (u : Sub) (m : Mark) (token : Byte) : List Byte :=
  handleField i gen ++ halfBytes r.id ++ [byteOf u.priority, byteOf m.count, m.snap, r.value] ++ halfBytes r.version ++ [token]

/-- The selected subscription u of port p on slot i is taken into service (R67, R69). -/
def State.takeIntoService (s : State) (p : Port) (i : SlotNo) (u : Sub) (token : Byte) : State :=
  let s1 := s.modService p fun v => { v with rotation := v.rotation.set u.priority i }
  let s2 := s1.updSub i p fun o => o.map fun u => { u with mark := none }
  let s3 := s2.modService p fun v =>
    { v with tokenCounter := token, list := v.list ++ [{ slot := i, token := token, overdue := false }] }
  (s3.startDeadline p u.priority i token u.cls).owe p

/-- ACQUIRE (R65). -/
def State.acquire (s : State) (p : Port) : Done :=
  match s.selected p with
  | none => refuse s .none
  | some i =>
    match s.slots[i].record with
    | none => refuse s .none
    | some r =>
      match r.subs[p] with
      | none => refuse s .none
      | some u =>
        match u.mark with
        | none => refuse s .none
        | some m =>
          let token := s.services[p].tokenCounter + 1#8
          { state := s.takeIntoService p i u token
            status := .ok
            fields := acquireFields i s.slots[i].gen r u m token }

/-- ACQUIRE (R65). -/
def execAcquire (p : Port) (s : State) : Host.Outcome State Fault Refusal :=
  .next (s.takeCommand p fun
    | .acquire => some fun t => t.acquire p
    | _ => none)

/-- Stage 3 of R72: an OVERDUE entry takes p's OVERDUE record back by 1 (R78). -/
def State.overdueBack (s : State) (p : Port) (e : Entry) : State :=
  if e.overdue then s.setValue (overdueSlot p) (s.valueAt (overdueSlot p) - 1#8) else s

/-- Stage 4 of R72: the subscription leaves a DRAINING record (R76); a HELD one is evaluated again (R75). -/
def State.releaseSub (s : State) (i : SlotNo) (p : Port) : State :=
  if s.isDraining i then s.removeDraining i p else s.heldEvaluation i p

/-- Stage 5 of R72: the release of a GUARD entry is offered to the domain (R77). -/
def State.acknowledge (s : State) (i : SlotNo) (p : Port) (guard : Bool) : State :=
  if guard then s.departOn i p else s

/-- The subscription of port p on slot i carries GUARD. -/
def State.guardAt (s : State) (i : SlotNo) (p : Port) : Bool :=
  match s.subAt i p with
  | none => false
  | some u => u.guard

/-- The ending of p's service entry e by the stages of R72. -/
def State.endEntry (s : State) (p : Port) (e : Entry) : State :=
  let s1 := (s.cancelFor p e.slot).removeEntry p e.slot
  let s2 := s1.overdueBack p e
  let s3 := s2.releaseSub e.slot p
  (s3.acknowledge e.slot p (s.guardAt e.slot p)).owe p

/-- The fields of a release answer: handle, token, flags overdue, pending, removed (R73). -/
def releaseFields (i : SlotNo) (gen : Byte) (e : Entry) (pending removed : Bool) : List Byte :=
  handleField i gen ++ [e.token,
    (if e.overdue then 1#8 else 0#8) ||| (if pending then 2#8 else 0#8) ||| (if removed then 4#8 else 0#8)]

/-- An entry of p ends and the release is answered (R72, R73). -/
def State.releaseEntry (s : State) (p : Port) (e : Entry) : Done :=
  let t := s.endEntry p e
  { state := t
    status := .ok
    fields := releaseFields e.slot s.slots[e.slot].gen e (isPending (t.subAt e.slot p)) (s.isDraining e.slot) }

/-- RELEASE: handle, service (R71). A DRAINING record passes the handle check. -/
def State.release (s : State) (p : Port) (h : Handle) : Done :=
  s.withHandle true h fun i _ =>
    match s.entryOn p i with
    | none => refuse s .notInService
    | some e => s.releaseEntry p e

/-- RELEASE (R71). -/
def execRelease (p : Port) (s : State) : Host.Outcome State Fault Refusal :=
  .next (s.takeCommand p fun
    | .release h => some fun t => t.release p h
    | _ => none)

/-- RELEASE_TOP ends the newest entry (R74). -/
def State.releaseTop (s : State) (p : Port) : Done :=
  match s.services[p].list.getLast? with
  | none => refuse s .none
  | some e => s.releaseEntry p e

/-- RELEASE_TOP (R74). -/
def execReleaseTop (p : Port) (s : State) : Host.Outcome State Fault Refusal :=
  .next (s.takeCommand p fun
    | .releaseTop => some fun t => t.releaseTop p
    | _ => none)

/-- THRESHOLD (R64). -/
def State.setThreshold (s : State) (p : Port) (t : Byte) : Done :=
  if h : t.toNat < 9 then
    { state := (s.modService p fun v => { v with threshold := ⟨t.toNat, h⟩ }).owe p
      status := .ok
      fields := [byteOf s.services[p].threshold] }
  else refuse s .badParam

/-- THRESHOLD (R64). -/
def execThreshold (p : Port) (s : State) : Host.Outcome State Fault Refusal :=
  .next (s.takeCommand p fun
    | .threshold t => some fun u => u.setThreshold p t
    | _ => none)

/-- One entry of a SERVICE_LIST answer: slot, generation, priority with OVERDUE in bit 7, token (R164). -/
def State.entryBytes (s : State) (p : Port) (e : Entry) : List Byte :=
  let prio : Byte :=
    match s.subAt e.slot p with
    | some u => byteOf u.priority
    | none => 0#8
  handleField e.slot s.slots[e.slot].gen ++ [prio ||| (if e.overdue then 0x80#8 else 0#8), e.token]

/-- SERVICE_LIST (R79). -/
def State.serviceList (s : State) (p : Port) : Done :=
  { state := s
    status := .ok
    fields := byteOf s.services[p].threshold :: byteOf (s.pendingCount p) :: s.services[p].list.flatMap (s.entryBytes p) }

/-- SERVICE_LIST (R79). -/
def execServiceList (p : Port) (s : State) : Host.Outcome State Fault Refusal :=
  .next (s.takeCommand p fun
    | .serviceList => some fun t => t.serviceList p
    | _ => none)

end Sys2Proof.Machine
end

