-- ==== Sys2Proof/Machine/Delivery.lean ====
section
/-! DEFINITION. The deliveries of the engine as they arrive at a port (R134, R139, R140, R141). Each step takes the
delivery that is on its way; where none is, nothing happens. -/

namespace Sys2Proof.Machine

open Sys2Proof

/-- An answer arrives: it joins the queue of an OPEN port, and is discarded at any other (R134). -/
def PortState.answerArrives (q : PortState) : PortState :=
  match q.inAnswer with
  | none => q
  | some a =>
    match q.link with
    | .opened => { q with answers := q.answers ++ [a], inAnswer := none }
    | .off | .closed | .closing _ | .faulted => { q with inAnswer := none }

/-- ANSWER_ARRIVAL (R134). -/
def execAnswerArrival (p : Port) (s : State) : Host.Outcome State Fault Refusal := .next (s.modPort p PortState.answerArrives)

/-- An eligible indication arrives and replaces the one held, in every link state (R141). -/
def PortState.indicationArrives (q : PortState) : PortState :=
  match q.inIndication with
  | none => q
  | some b => { q with eligible := b, inIndication := none }

/-- ELIGIBLE_INDICATION (R141). -/
def execEligibleIndication (p : Port) (s : State) : Host.Outcome State Fault Refusal :=
  .next (s.modPort p PortState.indicationArrives)

/-- An evict request arrives: an OPEN port leaves OPEN with cause EVICT; any other discards it (R139). -/
def PortState.evictArrives (q : PortState) : PortState :=
  if q.inEvict then
    match q.link with
    | .opened => ({ q with inEvict := false } : PortState).leaveOpen .evict
    | .off | .closed | .closing _ | .faulted => { q with inEvict := false }
  else q

/-- EVICT_REQUEST (R139). -/
def execEvictRequest (p : Port) (s : State) : Host.Outcome State Fault Refusal := .next (s.modPort p PortState.evictArrives)

/-- A teardown completion arrives: CLOSING passes to FAULTED for cause FAULT and to CLOSED otherwise (R140). -/
def PortState.completionArrives (q : PortState) : PortState :=
  if q.inCompletion then
    match q.link with
    | .closing .fault => { q with link := .faulted, inCompletion := false }
    | .closing .reset | .closing .evict => { q with link := .closed, inCompletion := false }
    | .off | .closed | .opened | .faulted => { q with inCompletion := false }
  else q

/-- TEARDOWN_COMPLETION (R140). -/
def execTeardownCompletion (p : Port) (s : State) : Host.Outcome State Fault Refusal :=
  .next (s.modPort p PortState.completionArrives)

end Sys2Proof.Machine
end

