-- ==== Sys2Proof/Machine/Directory.lean ====
section
/-! DEFINITION. The commands of Chapter 1: DECLARE (R12, R13), RETIRE (R15, R16), CLAIM (R20), LOOKUP (R21), LOCK (R22). -/

namespace Sys2Proof.Machine

open Sys2Proof

/-- A slot holds no record. -/
def State.isFree (s : State) (i : SlotNo) : Bool := (s.slots[i]).record.isNone

/-- The FREE user slot with the lowest number (R13). -/
def State.lowestFree (s : State) : Option SlotNo := userSlots.find? fun i => s.isFree i

/-- The generation after a declaration: 255 is followed by 1 (R3). -/
def nextGeneration (g : Byte) : Byte := if g = 0xFF#8 then 1#8 else g + 1#8

/-- The record an accepted DECLARE of port p makes (R13). -/
def declaredRecord (p : Port) (id : Half) (kind : Kind) (init dflt : Byte) (domain : Option Dom) (policy : Policy) : Record :=
  { state := .live
    id := id
    kind := kind
    value := match kind with
      | .level => init
      | .event => 0#8
    version := 0#16
    dflt := match kind with
      | .level => some dflt
      | .event => none
    domain := domain
    owner := .port p
    policy := some policy
    locked := false
    subs := Vector.replicate 6 none }

/-- DECLARE: parameters, id, domain, space (R12); then R13. -/
def State.declare (s : State) (p : Port) (id : Half) (kind init dflt dom policy : Byte) : Done :=
  if 0xFF00 ≤ id.toNat then refuse s .badParam
  else
    match kindOf kind, recordDomainOf dom, policyOf policy with
    | some k, some d, some o =>
      if (idFind id s.idMap).isSome then refuse s .idInUse
      else if s.domainHeld d then refuse s .domainHeld
      else
        match s.lowestFree with
        | none => refuse s .tableFull
        | some i =>
          let gen := nextGeneration s.slots[i].gen
          { state :=
              { s with
                slots := s.slots.set i { gen := gen, record := some (declaredRecord p id k init dflt d o) }
                idMap := idInsert id i s.idMap }
            status := .ok
            fields := handleField i gen }
    | _, _, _ => refuse s .badParam

/-- DECLARE (R12, R13). -/
def execDeclare (p : Port) (s : State) : Host.Outcome State Fault Refusal :=
  .next (s.takeCommand p fun
    | .declare id kind init dflt dom policy => some fun t => t.declare p id kind init dflt dom policy
    | _ => none)

/-- RETIRE: handle, system record, lock, authority (R15); then R16. -/
def State.retire (s : State) (p : Port) (h : Handle) : Done :=
  s.withHandle false h fun i r =>
    if isSystemSlot i then refuse s .denied
    else if r.locked then refuse s .locked
    else if r.owner = .port p ∨ s.ports[p].cls = .control then
      let t := s.retireRecord i
      { state := t, status := if (t.slots[i]).record.isNone then .ok else .retiring, fields := [] }
    else refuse s .notOwner

/-- RETIRE (R15, R16). -/
def execRetire (p : Port) (s : State) : Host.Outcome State Fault Refusal :=
  .next (s.takeCommand p fun
    | .retire h => some fun t => t.retire p h
    | _ => none)

/-- CLAIM: handle, system record, lock, owner (R20). -/
def State.claim (s : State) (p : Port) (h : Handle) : Done :=
  s.withHandle false h fun i r =>
    if isSystemSlot i then refuse s .denied
    else if r.locked then refuse s .locked
    else
      match r.owner with
      | .nobody => { state := s.modRecord i fun r => { r with owner := .port p }, status := .ok, fields := [] }
      | .port q => if q = p then { state := s, status := .ok, fields := [] } else refuse s .owned
      | .pin _ | .system => refuse s .owned

/-- CLAIM (R20). -/
def execClaim (p : Port) (s : State) : Host.Outcome State Fault Refusal :=
  .next (s.takeCommand p fun
    | .claim h => some fun t => t.claim p h
    | _ => none)

/-- The pin byte of a LOOKUP answer: the bound pin, or FFH (Table 1-9). -/
def boundPinByte (o : Option Pin) : Byte :=
  match o with
  | some g => byteOf g
  | none => absentByte

/-- The length of a record's subscription list (R43). -/
def Record.subCount (r : Record) : Nat := (List.finRange 6).countP fun p => (r.subs[p]).isSome

/-- The fields of a LOOKUP answer (Table 1-9, Table 11-8). -/
def State.lookupFields (s : State) (i : SlotNo) (r : Record) : List Byte :=
  handleField i s.slots[i].gen
    ++ [kindByte r.kind, recStateByte r.state, ownerByte r.owner, domainByte r.domain, yesNo r.locked, r.value]
    ++ halfBytes r.version ++ [boundPinByte (s.boundPin i), byteOf r.subCount]

/-- LOOKUP: the id is sought in the Id Map (R21). -/
def State.lookup (s : State) (id : Half) : Done :=
  match idFind id s.idMap with
  | none => refuse s .notFound
  | some i =>
    match s.slots[i].record with
    | none => refuse s .notFound
    | some r => { state := s, status := .ok, fields := s.lookupFields i r }

/-- LOOKUP (R21). -/
def execLookup (p : Port) (s : State) : Host.Outcome State Fault Refusal :=
  .next (s.takeCommand p fun
    | .lookup id => some fun t => t.lookup id
    | _ => none)

/-- The record in slot i has an INPUT binding. -/
def State.inputBound (s : State) (i : SlotNo) : Bool :=
  match s.boundPin i with
  | none => false
  | some g =>
    match s.pins[g].binding with
    | none => false
    | some b =>
      match b.dir with
      | .input _ => true
      | .output => false

/-- LOCK: class, handle, system record, binding, already locked (R22). -/
def State.lock (s : State) (p : Port) (h : Handle) : Done :=
  controlOnly s p fun s =>
    s.withHandle false h fun i _ =>
      if isSystemSlot i then refuse s .denied
      else if s.inputBound i then refuse s .bound
      else { state := s.modRecord i fun r => { r with locked := true }, status := .ok, fields := [] }

/-- LOCK (R22). -/
def execLock (p : Port) (s : State) : Host.Outcome State Fault Refusal :=
  .next (s.takeCommand p fun
    | .lock h => some fun t => t.lock p h
    | _ => none)

end Sys2Proof.Machine
end

