-- ==== Sys2Proof/Machine/Domains.lean ====
section
/-! DEFINITION. The commands of Chapter 6: DOMAIN_RESET (R94 to R99) and DOMAIN_RELEASE (R105, R106). -/

namespace Sys2Proof.Machine

open Sys2Proof

/-- The awaited set a warning of d would start with: every port that holds a GUARD subscription on d's DOMAIN record (R95). -/
def State.guardPorts (s : State) (d : Dom) : Vector Bool 6 :=
  Vector.ofFn fun p : Port =>
    match s.subAt (domainSlot d) p with
    | some u => u.guard
    | none => false

/-- A warning of d starts by the stages of R95. -/
def State.startWarning (s : State) (d : Dom) (timeout : Byte) : State :=
  let serial := s.domains[d].serial + 1#8
  let s1 := s.modDomain d fun x =>
    { state := .warning, awaited := s.guardPorts d, serial := serial, timeout := timeout }
  let s2 := s1.setValue (domainSlot d) (domStateByte .warning)
  s2.startWarningTimer d serial timeout

/-- The fields of STARTED and BUSY: serial, awaited set, timeout in force (R95, R98). -/
def DomainEntry.warningFields (x : DomainEntry) : List Byte := [x.serial, portSetByte x.awaited, x.timeout]

/-- An IMMEDIATE reset from RUN, and a WARNED one with an empty awaited set (R96, R97). -/
def State.resetNow (s : State) (d : Dom) : Done :=
  let sw := s.sweep d
  { state := sw.1.enterHeld d, status := .ok, fields := [byteOf sw.2] }

/-- DOMAIN_RESET by the state of the domain and the mode (Table 6-3). -/
def State.resetDomain (s : State) (d : Dom) (mode : ResetMode) (timeout : Byte) : Done :=
  match s.domains[d].state, mode with
  | .run, .warned =>
    if (List.finRange 6).any fun p => (s.guardPorts d)[p] then
      let t := s.startWarning d timeout
      { state := t, status := .started, fields := t.domains[d].warningFields }
    else s.resetNow d
  | .run, .immediate => s.resetNow d
  | .warning, .warned => { state := s, status := .busy, fields := s.domains[d].warningFields }
  | .warning, .immediate =>
    let ended := s.endWarning d
    { state := ended.1, status := .ok, fields := [byteOf ended.2] }
  | .held, _ => { state := s, status := .already, fields := [domStateByte .held] }

/-- DOMAIN_RESET: class, domain, mode (R94); then Table 6-3. -/
def State.domainReset (s : State) (p : Port) (dom mode timeout : Byte) : Done :=
  controlOnly s p fun s =>
    match domOf dom, resetModeOf mode with
    | some d, some m => s.resetDomain d m timeout
    | _, _ => refuse s .badParam

/-- DOMAIN_RESET (R94). -/
def execDomainReset (p : Port) (s : State) : Host.Outcome State Fault Refusal :=
  .next (s.takeCommand p fun
    | .domainReset dom mode timeout => some fun t => t.domainReset p dom mode timeout
    | _ => none)

/-- A warning of d is cancelled by the stages of R105. -/
def State.cancelWarning (s : State) (d : Dom) : State :=
  let s1 := s.cancelWarningTimer d
  let s2 := s1.modDomain d fun x =>
    { x with state := .run, awaited := Vector.replicate 6 false, timeout := 0#8 }
  s2.setValue (domainSlot d) (domStateByte .run)

/-- The value the re-application gives slot i of domain d: that of its INPUT pin's accepted level (R106). -/
def State.reapplied (s : State) (d : Dom) (i : SlotNo) : Option Byte :=
  match s.slots[i].record with
  | none => none
  | some r =>
    if r.state = .live ∧ r.domain = some d then
      match s.boundPin i with
      | none => none
      | some g => (s.pins[g].applied).map (·.2)
    else none

/-- The re-application reaches one slot; the count of changed records goes with the state. -/
def State.reapplySlot (d : Dom) (acc : State × Nat) (i : SlotNo) : State × Nat :=
  match acc.1.reapplied d i with
  | none => acc
  | some v => if acc.1.valueAt i = v then acc else (acc.1.change i v 0, acc.2 + 1)

/-- Stage 3 of R106: the slots in ascending order. -/
def State.reapply (s : State) (d : Dom) : State × Nat := (List.finRange 128).foldl (State.reapplySlot d) (s, 0)

/-- A HELD domain returns to RUN by the stages of R106. -/
def State.releaseHeld (s : State) (d : Dom) : State × Nat :=
  let s1 := s.modDomain d fun x => { x with state := .run }
  (s1.setValue (domainSlot d) (domStateByte .run)).reapply d

/-- DOMAIN_RELEASE by the state of the domain (R105, R106). -/
def State.releaseDomain (s : State) (d : Dom) : Done :=
  match s.domains[d].state with
  | .run => { state := s, status := .already, fields := [domStateByte .run] }
  | .warning => { state := s.cancelWarning d, status := .ok, fields := [domStateByte .warning, 0#8] }
  | .held =>
    let t := s.releaseHeld d
    { state := t.1, status := .ok, fields := [domStateByte .held, byteOf t.2] }

/-- DOMAIN_RELEASE: class, domain (section 6.5); then R105, R106. -/
def State.domainRelease (s : State) (p : Port) (dom : Byte) : Done :=
  controlOnly s p fun s =>
    match domOf dom with
    | none => refuse s .badParam
    | some d => s.releaseDomain d

/-- DOMAIN_RELEASE (R106). -/
def execDomainRelease (p : Port) (s : State) : Host.Outcome State Fault Refusal :=
  .next (s.takeCommand p fun
    | .domainRelease dom => some fun t => t.domainRelease p dom
    | _ => none)

end Sys2Proof.Machine
end

