-- ==== Sys2Proof/Machine/Link.lean ====
section
/-! DEFINITION. The master frames at a link port (R127 to R137, R162, R163): HELLO, SUBMIT, PULL, RESET_LINK, PEEK, the
bad frame and the frame of unknown kind. A port settles every frame from its own state alone. -/

namespace Sys2Proof.Machine

open Sys2Proof

/-- HELLO at a listening port (R131). -/
def PortState.hello (q : PortState) (body : List Byte) : PortState :=
  let q := q.goodFrame
  if body ≠ [] then q.replies .malformed []
  else
    match q.link with
    | .closed =>
      ({ q with link := .opened, nextSeq := 0#4, notice := some .opened } : PortState).replies .helloOk [classByte q.cls]
    | .opened | .faulted => q.replies .badState []
    | .closing _ => q.replies .closing []
    | .off => q

/-- HELLO (R131). -/
def execHello (p : Port) (body : List Byte) (s : State) : Host.Outcome State Fault Refusal :=
  .next (s.takeFrame p fun q => q.hello body)

/-- SUBMIT at a listening port: link state, form, space, in that order (R132). -/
def PortState.submitFrame (q : PortState) (body : List Byte) : PortState :=
  let q := q.goodFrame
  match q.link with
  | .closing _ => q.replies .closing []
  | .closed | .faulted => q.replies .badState []
  | .off => q
  | .opened =>
    match decodeSubmit body with
    | none => q.replies .malformed []
    | some (tag, c) =>
      if Config.submitDepth ≤ q.submit.length then q.replies .full []
      else
        ({ q with submit := q.submit ++ [{ tag := tag, command := c }] } : PortState).replies .accepted
          [byteOf (Config.submitDepth - (q.submit.length + 1))]

/-- SUBMIT (R132). -/
def execSubmit (p : Port) (body : List Byte) (s : State) : Host.Outcome State Fault Refusal :=
  .next (s.takeFrame p fun q => q.submitFrame body)

/-- The acknowledgement of a PULL body: a sequence 0 to 15, or none; no acknowledgement where the body is malformed (R135,
R162). -/
def ackOf : List Byte → Option (Option (BitVec 4))
  | [b] => if b = 0xFF#8 then some none else if b.toNat < 16 then some (some (b.setWidth 4)) else none
  | _ => none

/-- The head of the answer queue is delivered under the sequence seq (R135, Table 11-7): the reply carries the sequence,
the indication, the number queued and the answer. -/
def PortState.deliver (q : PortState) (seq : BitVec 4) : PortState :=
  match q.answers with
  | [] => q.replies .empty [yesNo q.eligible, byteOf q.answers.length]
  | a :: _ =>
    ({ q with outstanding := some seq } : PortState).replies .answer
      ([seq.setWidth 8, yesNo q.eligible, byteOf q.answers.length, a.tag, opcodeByte a.code, statusByte a.status]
        ++ a.fields)

/-- The head is delivered for the first time, under the next sequence; an empty queue is answered EMPTY (Table 8-3). -/
def PortState.deliverNew (q : PortState) : PortState :=
  match q.answers with
  | [] => q.deliver q.nextSeq
  | _ :: _ => ({ q with nextSeq := q.nextSeq + 1 } : PortState).deliver q.nextSeq

/-- PULL in OPEN (Table 8-3). -/
def PortState.pullOpen (q : PortState) (ack : Option (BitVec 4)) : PortState :=
  match q.answers, q.outstanding with
  | [], _ => q.deliverNew
  | _ :: _, none => q.deliverNew
  | _ :: rest, some seq =>
    if ack = some seq then ({ q with answers := rest, outstanding := none } : PortState).deliverNew else q.deliver seq

/-- PULL at a listening port (R135). -/
def PortState.pull (q : PortState) (body : List Byte) : PortState :=
  let q := q.goodFrame
  match ackOf body with
  | none => q.replies .malformed []
  | some ack =>
    match q.link with
    | .closing _ => q.replies .closing []
    | .closed | .faulted => q.replies .badState []
    | .off => q
    | .opened => q.pullOpen ack

/-- PULL (R135). -/
def execPull (p : Port) (body : List Byte) (s : State) : Host.Outcome State Fault Refusal :=
  .next (s.takeFrame p fun q => q.pull body)

/-- RESET_LINK at a listening port (R136); the reply carries the link state the frame left. -/
def PortState.resetLink (q : PortState) (body : List Byte) : PortState :=
  let q := q.goodFrame
  if body ≠ [] then q.replies .malformed []
  else
    match q.link with
    | .opened => (q.leaveOpen .reset).replies .resetOk [linkByte (.closing .reset)]
    | .closed => q.replies .resetOk [linkByte .closed]
    | .faulted => ({ q with link := .closed, notice := some .closed } : PortState).replies .resetOk [linkByte .closed]
    | .closing _ => q.replies .closing []
    | .off => q

/-- RESET_LINK (R136). -/
def execResetLink (p : Port) (body : List Byte) (s : State) : Host.Outcome State Fault Refusal :=
  .next (s.takeFrame p fun q => q.resetLink body)

/-- PEEK at a listening port: the count it reports is the one before it (R137). -/
def PortState.peek (q : PortState) (body : List Byte) : PortState :=
  if body ≠ [] then q.goodFrame.replies .malformed []
  else
    q.goodFrame.replies .peek
      [linkByte q.link, causeByte q.link, classByte q.cls, byteOf q.badCount, byteOf q.submit.length,
        byteOf q.answers.length]

/-- PEEK (R137). -/
def execPeek (p : Port) (body : List Byte) (s : State) : Host.Outcome State Fault Refusal :=
  .next (s.takeFrame p fun q => q.peek body)

/-- The fault of R129: an OPEN port leaves OPEN, a CLOSED one passes to FAULTED with a link notice of 2. -/
def PortState.faultReached (q : PortState) : PortState :=
  match q.link with
  | .opened => q.leaveOpen .fault
  | .closed => { q with link := .faulted, notice := some .faulted }
  | .closing _ | .faulted | .off => q

/-- A bad frame at a listening port: the count advances up to 4, the step from 3 to 4 is a fault, and only a wrong CRC is
answered (R128, R129). -/
def PortState.badFrame (q : PortState) (form : BadForm) : PortState :=
  let q1 := if q.badCount = 4 then q else { q with badCount := q.badCount + 1 }
  let q2 := if q.badCount = 3 then q1.faultReached else q1
  match form with
  | .badCrc => q2.replies .badFrame []
  | .cutShort | .overLong => { q2 with reply := none }

/-- BAD_FRAME (R128). -/
def execBadFrame (p : Port) (form : BadForm) (s : State) : Host.Outcome State Fault Refusal :=
  .next (s.takeFrame p fun q => q.badFrame form)

/-- UNKNOWN_KIND_FRAME: answered MALFORMED; the bad-frame count becomes 0 (R128). The kind and the body have no effect. -/
def execUnknownKindFrame (p : Port) (_kind : Byte) (_body : List Byte) (s : State) : Host.Outcome State Fault Refusal :=
  .next (s.takeFrame p fun q => q.goodFrame.replies .malformed [])

end Sys2Proof.Machine
end

