-- ==== Sys2Proof/Machine/Pins.lean ====
section
/-! DEFINITION. The commands of Chapter 7, BIND_PIN (R112 to R115), UNBIND_PIN (R120), PIN_QUERY (R122), and the EVICT of
Chapter 9 (R149). -/

namespace Sys2Proof.Machine

open Sys2Proof

/-- The binding a BIND_PIN makes: the pin's serial counter advances and names it (R112). -/
def PinState.bind (x : PinState) (i : SlotNo) (dir : Direction) (active : Level) : PinState :=
  { x with
    serialCounter := x.serialCounter + 1#8
    binding := some { slot := i, dir := dir, active := active, serial := x.serialCounter + 1#8 } }

/-- The sample a BIND_PIN INPUT takes: raw and accepted level, count 0, driver at high impedance (R114, stage 3). -/
def PinState.bindSample (x : PinState) (l : Level) : PinState :=
  { x with raw := l, input := some { accepted := l, count := 0, due := false }, driver := .highZ }

/-- BIND_PIN INPUT by the stages of R114. -/
def State.bindInput (s : State) (g : Pin) (i : SlotNo) (f : Fin 16) (active : Level) (found : Option Level) : State :=
  let l := foundLevel s.samples g found .highZ
  let s1 := s.modPin g fun x => x.bind i (.input f) active
  let s2 := s1.modRecord i fun r => { r with owner := .pin g }
  let s3 := { s2.modPin g fun x => x.bindSample l with samples := s.samples + 1 }
  if s3.heldAt i then s3 else s3.setValue i (inputValue active l)

/-- BIND_PIN OUTPUT by the stages of R115. -/
def State.bindOutput (s : State) (g : Pin) (i : SlotNo) (active : Level) (value : Byte) : State :=
  s.modPin g fun x => { x.bind i .output active with driver := .driving (driveLevel active value) }

/-- The accepted level of a BIND_PIN answer: FFH for OUTPUT (Table 11-8). -/
def State.boundLevelByte (s : State) (g : Pin) (dir : Direction) : Byte :=
  match dir, s.pins[g].input with
  | .input _, some f => levelByte f.accepted
  | .input _, none => absentByte
  | .output, _ => absentByte

/-- The fields of an accepted BIND_PIN: serial, accepted level or FFH, value and version when complete (R113). -/
def State.bindFields (s : State) (g : Pin) (i : SlotNo) (dir : Direction) : List Byte :=
  [s.pins[g].serialCounter, s.boundLevelByte g dir, s.valueAt i] ++ halfBytes (s.versionAt i)

/-- Checks 4 to 7 of R113; the status that refuses the binding, if one does. -/
def State.bindRefusal (s : State) (p : Port) (g : Pin) (i : SlotNo) (r : Record) (dir : Direction) : Option Status :=
  if (s.pins[g]).binding.isSome then some .bound
  else if (s.boundPin i).isSome then some .bound
  else
    match dir with
    | .output => none
    | .input _ =>
      if r.locked then some .locked
      else if r.owner = .port p ∨ r.owner = .nobody then none
      else some .notOwner

/-- BIND_PIN: class, handle, system record, parameters, pin, record, lock, owner (R113); then R114 or R115. -/
def State.bindPin (s : State) (p : Port) (found : Option Level) (pin : Byte) (h : Handle) (dir active filter : Byte) : Done :=
  controlOnly s p fun s =>
    s.withHandle false h fun i r =>
      if isSystemSlot i then refuse s .denied
      else
        match pinOf pin, directionOf dir filter, levelOf active, r.kind with
        | some g, some d, some a, .level =>
          match s.bindRefusal p g i r d with
          | some e => refuse s e
          | none =>
            let t :=
              match d with
              | .input f => s.bindInput g i f a found
              | .output => s.bindOutput g i a r.value
            { state := t, status := .ok, fields := t.bindFields g i d }
        | _, _, _, _ => refuse s .badParam

/-- BIND_PIN (R113). -/
def execBindPin (p : Port) (found : Option Level) (s : State) : Host.Outcome State Fault Refusal :=
  .next (s.takeCommand p fun
    | .bindPin pin h dir active filter => some fun t => t.bindPin p found pin h dir active filter
    | _ => none)

/-- UNBIND_PIN: class, pin, binding (R120). An INPUT record is left owned by NONE; its orphan policy is not applied. -/
def State.unbindPin (s : State) (p : Port) (pin : Byte) : Done :=
  controlOnly s p fun s =>
    match pinOf pin with
    | none => refuse s .badParam
    | some g =>
      match s.pins[g].binding with
      | none => refuse s .notBound
      | some b =>
        let s1 := s.modPin g PinState.unbound
        { state :=
            match b.dir with
            | .input _ => s1.modRecord b.slot fun r => { r with owner := .nobody }
            | .output => s1
          status := .ok
          fields := handleField b.slot s.slots[b.slot].gen ++ [directionByte b.dir] }

/-- UNBIND_PIN (R120). -/
def execUnbindPin (p : Port) (s : State) : Host.Outcome State Fault Refusal :=
  .next (s.takeCommand p fun
    | .unbindPin pin => some fun t => t.unbindPin p pin
    | _ => none)

/-- The filter byte of a PIN_QUERY answer. -/
def filterByte : Direction → Byte
  | .input f => byteOf f
  | .output => absentByte

/-- The first seven bytes of a PIN_QUERY answer: bound, handle, direction, active level, serial, filter (Table 11-8). -/
def State.bindingBytes (s : State) (x : PinState) : List Byte :=
  match x.binding with
  | none => [yesNo false, absentByte, absentByte, absentByte, absentByte, absentByte, absentByte]
  | some b =>
    yesNo true :: handleField b.slot s.slots[b.slot].gen
      ++ [directionByte b.dir, levelByte b.active, b.serial, filterByte b.dir]

/-- The accepted level of a PIN_QUERY answer: none unless INPUT-bound (Table 7-4). -/
def PinState.acceptedByte (x : PinState) : Byte :=
  match x.input with
  | some f => levelByte f.accepted
  | none => absentByte

/-- The driven level of a PIN_QUERY answer: none unless OUTPUT-bound (Table 7-4). -/
def PinState.drivenByte (x : PinState) : Byte :=
  match x.driver with
  | .driving l => levelByte l
  | .highZ => absentByte

/-- PIN_QUERY (R122). -/
def State.pinQuery (s : State) (pin : Byte) : Done :=
  match pinOf pin with
  | none => refuse s .badParam
  | some g =>
    let x := s.pins[g]
    { state := s, status := .ok, fields := s.bindingBytes x ++ [levelByte x.raw, x.acceptedByte, x.drivenByte] }

/-- PIN_QUERY (R122). -/
def execPinQuery (p : Port) (s : State) : Host.Outcome State Fault Refusal :=
  .next (s.takeCommand p fun
    | .pinQuery pin => some fun t => t.pinQuery pin
    | _ => none)

/-- EVICT: class, target, enabled (R149). The answer carries the target's LINK value, and an evict request is on its way
to the target. -/
def State.evict (s : State) (p : Port) (port : Byte) : Done :=
  controlOnly s p fun s =>
    match portOf port with
    | none => refuse s .badParam
    | some q =>
      if q = p then refuse s .badParam
      else if s.ports[q].enabled = false then refuse s .notOpen
      else
        { state := s.modPort q fun x => { x with inEvict := true }
          status := .ok
          fields := [s.valueAt (linkSlot q)] }

/-- EVICT (R149). -/
def execEvict (p : Port) (s : State) : Host.Outcome State Fault Refusal :=
  .next (s.takeCommand p fun
    | .evict port => some fun t => t.evict p port
    | _ => none)

end Sys2Proof.Machine
end

