-- ==== Sys2Proof/Machine/Reset.lean ====
section
/-! DEFINITION. COLD_RESET and RESET_RELEASE (R7, R8, R11, R110, R125). -/

namespace Sys2Proof.Machine

open Sys2Proof

/-- Every item at its cold reset value; a taking in progress and every waiting request are abandoned (R11, R143). The
queue of waiting steps and the count of samples are the model's own and stay. -/
def State.cold (s : State) : State := { State.reset with pending := s.pending, samples := s.samples }

/-- COLD_RESET: RST# goes low (R11, R109, R124). -/
def execColdReset (s : State) : Host.Outcome State Fault Refusal := .next s.cold

/-! ## Reset release -/

/-- The level of pin g at the RST# release sample, every driver at high impedance (R110). -/
def releaseLevel (sample : Nat) (board : Board) (g : Pin) : Level := foundLevel sample g board[g] .highZ

/-- The enable strap of a port: GPn HIGH (Table 7-2). -/
def strapEnabled (levels : Pin → Level) (p : Port) : Bool := levels ⟨p.val, by omega⟩ = .high

/-- The class strap of a port: GP(n + 6) HIGH is CONTROL (Table 7-2). -/
def strapClass (levels : Pin → Level) (p : Port) : PortClass :=
  match levels ⟨p.val + 6, by omega⟩ with
  | .high => .control
  | .low => .member

/-- The id of a system record (Table 1-8); none for a user slot. -/
def systemId (i : SlotNo) : Option Half :=
  if i.val < 6 then some (0xFF00#16 + BitVec.ofNat 16 i.val)
  else if i.val < 12 then some (0xFF10#16 + BitVec.ofNat 16 (i.val - 6))
  else if i.val < 20 then some (0xFF20#16 + BitVec.ofNat 16 (i.val - 12))
  else none

/-- The value of a system record at its creation: 3 for the LINK record of a port strapped disabled, else 0 (Table 1-8). -/
def systemValue (enabled : Port → Bool) (i : SlotNo) : Byte :=
  if h : i.val < 6 then (if enabled ⟨i.val, h⟩ then 0#8 else 3#8) else 0#8

/-- A system record as R7 creates it. -/
def systemRecord (id : Half) (value : Byte) : Record :=
  { state := .live, id := id, kind := .level, value := value, version := 0#16, dflt := none, domain := none,
    owner := .system, policy := none, locked := false, subs := Vector.replicate 6 none }

/-- A slot right after reset release: a system record with generation 1, or a FREE user slot with generation 0 (R7, R8). -/
def releasedSlot (enabled : Port → Bool) (i : SlotNo) : Slot :=
  match systemId i with
  | some id => { gen := 1#8, record := some (systemRecord id (systemValue enabled i)) }
  | none => Slot.cold

/-- The Id Map right after reset release: the twenty system ids (R5, R8). -/
def releasedIdMap : List (Half × SlotNo) :=
  (List.finRange 128).filterMap fun i => (systemId i).map fun id => (id, i)

/-- A port right after reset release: CLOSED or OFF by its enable strap (Table 8-2). -/
def releasedPort (levels : Pin → Level) (p : Port) : PortState :=
  { PortState.cold with
    enabled := strapEnabled levels p
    cls := strapClass levels p
    link := if strapEnabled levels p then .closed else .off }

/-- The machine right after RST# is released with the given levels at the pins. -/
def State.released (s : State) (levels : Pin → Level) : State :=
  { s.cold with
    rstLow := false
    slots := Vector.ofFn fun i : SlotNo => releasedSlot (strapEnabled levels) i
    idMap := releasedIdMap
    pins := Vector.ofFn fun g : Pin => { PinState.cold with raw := levels g }
    ports := Vector.ofFn fun p : Port => releasedPort levels p
    samples := s.samples + 1 }

/-- RESET_RELEASE: the straps are sampled, the ports enter CLOSED or OFF, the system records are created. It happens only
while RST# is low. -/
def execResetRelease (board : Board) (s : State) : Host.Outcome State Fault Refusal :=
  .next (if s.rstLow then s.released (releaseLevel s.samples board) else s)

end Sys2Proof.Machine
end

