-- ==== Sys2Proof/Machine/Subscriptions.lean ====
section
/-! DEFINITION. The commands of Chapter 3: SUBSCRIBE (R46 to R49) and UNSUBSCRIBE (R50). -/

namespace Sys2Proof.Machine

open Sys2Proof

/-- The fields of an accepted SUBSCRIBE: value, version, flags pending and replaced (Table 11-8), read when the command is
complete (assumption 9). -/
def State.subscribeFields (s : State) (i : SlotNo) (p : Port) (replaced : Bool) : List Byte :=
  s.valueAt i :: halfBytes (s.versionAt i)
    ++ [(if isPending (s.subAt i p) then 1#8 else 0#8) ||| (if replaced then 2#8 else 0#8)]

/-- A new subscription takes its place and is evaluated if HELD (R47, R49). -/
def State.createSub (s : State) (i : SlotNo) (p : Port) (new : Sub) : State :=
  (s.updSub i p fun _ => some new).heldEvaluation i p

/-- A replacement in place by the stages of R48. -/
def State.replaceSub (s : State) (i : SlotNo) (p : Port) (old new : Sub) : State :=
  let s1 := (s.updSub i p fun _ => some new).heldEvaluation i p
  if old.guard ∧ new.guard = false then s1.departOn i p else s1

/-- SUBSCRIBE: handle, codes, combination, service, space (R46); then R47 or R48. -/
def State.subscribe (s : State) (p : Port) (h : Handle) (prio cond matchValue mode cls attrs : Byte) : Done :=
  s.withHandle false h fun i r =>
    match askedSub i r.kind prio cond matchValue mode cls attrs with
    | none => refuse s .badParam
    | some new =>
      match r.subs[p] with
      | some old =>
        if s.inService p i then refuse s .inService
        else
          let t := s.replaceSub i p old new
          { state := t, status := .ok, fields := t.subscribeFields i p true }
      | none =>
        if Config.poolSize ≤ s.poolInUse then refuse s .poolFull
        else
          let t := s.createSub i p new
          { state := t, status := .ok, fields := t.subscribeFields i p false }

/-- SUBSCRIBE (R46). -/
def execSubscribe (p : Port) (s : State) : Host.Outcome State Fault Refusal :=
  .next (s.takeCommand p fun
    | .subscribe h prio cond matchValue mode cls attrs =>
      some fun t => t.subscribe p h prio cond matchValue mode cls attrs
    | _ => none)

/-- The subscription of port p leaves slot i; a GUARD subscription's departure follows (R50, R51). -/
def State.unsubscribeSub (s : State) (i : SlotNo) (p : Port) (old : Sub) : State :=
  let s1 := s.updSub i p fun _ => none
  if old.guard then s1.departOn i p else s1

/-- UNSUBSCRIBE: handle, subscription, service (R50). -/
def State.unsubscribe (s : State) (p : Port) (h : Handle) : Done :=
  s.withHandle false h fun i r =>
    match r.subs[p] with
    | none => refuse s .notSubscribed
    | some old =>
      if s.inService p i then refuse s .inService
      else { state := s.unsubscribeSub i p old, status := .ok, fields := [] }

/-- UNSUBSCRIBE (R50). -/
def execUnsubscribe (p : Port) (s : State) : Host.Outcome State Fault Refusal :=
  .next (s.takeCommand p fun
    | .unsubscribe h => some fun t => t.unsubscribe p h
    | _ => none)

end Sys2Proof.Machine
end

