-- ==== Sys2Proof/Machine/Time.lean ====
section
/-! DEFINITION. REFCLK, the tick, and what belongs to a tick: timers running out and filters accepting (R81, R82, R85,
R91, R111, R117, R118). A tick is told in two kinds of steps, as the table of steps has it: TICK reduces the timers,
samples the pins and runs the filters; each run-out and each acceptance is a step of its own, and the arbiter carries
out nothing until all of them have happened (assumption 4); a request it had chosen when the tick fell it has still chosen
(assumption 19). -/

namespace Sys2Proof.Machine

open Sys2Proof

/-- REFCLK_RISING_EDGE: the divider advances by 1 from a count of 0 to 30. At 31 the edge is a TICK; while RST# is low the
divider is held at 0 (R81). -/
def execRefclkRisingEdge (s : State) : Host.Outcome State Fault Refusal :=
  .next (if s.rstLow = false ∧ s.divider.val < 31 then { s with divider := s.divider + 1 } else s)

/-- A RUNNING deadline timer has one tick less (R85). -/
def DeadlineUnit.ticked (u : DeadlineUnit) : DeadlineUnit :=
  { u with timer := u.timer.map fun t => { t with remaining := t.remaining - 1 } }

/-- A RUNNING warning timer has one tick less (R91). -/
def WarningUnit.ticked (u : WarningUnit) : WarningUnit :=
  { u with timer := u.timer.map fun t => { t with remaining := t.remaining - 1 } }

/-- One run of the input filter with value f on a new raw level (Table 7-3). The last row's acceptance is left due. -/
def InputFilter.run (x : InputFilter) (f : Fin 16) (raw : Level) : InputFilter :=
  if raw = x.accepted then { x with count := 0 }
  else if x.count < f then { x with count := x.count + 1 }
  else { x with due := true }

/-- A pin at a tick: the level found becomes the raw level, and the filter of an INPUT binding runs once (R111). -/
def PinState.sampled (x : PinState) (l : Level) : PinState :=
  match x.binding with
  | some b =>
    match b.dir with
    | .input f => { x with raw := l, input := x.input.map fun i => i.run f l }
    | .output => { x with raw := l }
  | none => { x with raw := l }

/-- The part at a tick: the divider passes to 0, the timers are reduced, the pins are sampled. -/
def State.ticked (s : State) (board : Board) : State :=
  { s with
    divider := 0
    deadlines := s.deadlines.map fun row => row.map DeadlineUnit.ticked
    warnings := s.warnings.map WarningUnit.ticked
    pins := Vector.ofFn fun g : Pin => (s.pins[g]).sampled (foundLevel s.samples g board[g] (s.pins[g]).driver)
    samples := s.samples + 1 }

/-- TICK: the divider passes from 31 to 0 (R81). It happens only with RST# high, at a count of 31, and when everything of
the tick before has happened. A request that stands before a free engine is chosen by then (assumption 19). -/
def execTick (board : Board) (s : State) : Host.Outcome State Fault Refusal :=
  .next (if s.rstLow = false ∧ s.divider = 31 ∧ s.tickUnfinished = false then s.engaged.ticked board else s)

/-- FILTER_ACCEPT of pin g: the raw level becomes the accepted level, the count returns to 0 and the update request flag is
raised with the serial of the present binding (R117, R118). -/
def PinState.accepts (x : PinState) : PinState :=
  match x.binding, x.input with
  | some b, some f =>
    if f.due then
      { x with input := some { accepted := x.raw, count := 0, due := false }, flag := some b.serial }
    else x
  | _, _ => x

/-- FILTER_ACCEPT (R117). -/
def execFilterAccept (g : Pin) (s : State) : Host.Outcome State Fault Refusal := .next (s.modPin g PinState.accepts)

/-- The deadline timer of (p, k) runs out if it stands at 0: its flag is raised with slot and token, and it passes to
IDLE (R85). -/
def DeadlineUnit.runOut (u : DeadlineUnit) : DeadlineUnit :=
  match u.timer with
  | some t => if t.remaining = 0 then { timer := none, flag := some { slot := t.slot, token := t.token } } else u
  | none => u

/-- DEADLINE_TIMER_RUN_OUT (R85). -/
def execDeadlineTimerRunOut (p : Port) (k : Prio) (s : State) : Host.Outcome State Fault Refusal :=
  .next (s.modDeadline p k DeadlineUnit.runOut)

/-- The warning timer of d runs out if it stands at 0: its flag is raised with its serial, and it passes to IDLE (R91). -/
def WarningUnit.runOut (u : WarningUnit) : WarningUnit :=
  match u.timer with
  | some t => if t.remaining = 0 then { timer := none, flag := some t.serial } else u
  | none => u

/-- WARNING_TIMER_RUN_OUT (R91). -/
def execWarningTimerRunOut (d : Dom) (s : State) : Host.Outcome State Fault Refusal :=
  .next (s.modWarning d WarningUnit.runOut)

end Sys2Proof.Machine
end

