-- ==== Sys2Proof/Machine/Values.lean ====
section
/-! DEFINITION. The commands of Chapter 2: SET (R34), SET_IF (R35), RAISE (R36), READ (R37), READ_GROUP (R38, R39). -/

namespace Sys2Proof.Machine

open Sys2Proof

/-- Checks 4 to 7 of Table 2-2: kind, lock, ownership, domain; the status that refuses the write, if one does. -/
def State.writeRefusal (s : State) (p : Port) (kind : Kind) (r : Record) : Option Status :=
  if r.kind ≠ kind then some .badParam
  else if r.locked then some .locked
  else if r.owner ≠ .port p then some .notOwner
  else if s.domainHeld r.domain then some .domainHeld
  else none

/-- The value is written: OK with the new version, or UNCHANGED with the present one (R34). -/
def State.writeValue (s : State) (i : SlotNo) (r : Record) (v : Byte) : Done :=
  if r.value = v then { state := s, status := .unchanged, fields := halfBytes r.version }
  else
    let t := s.change i v 0
    { state := t, status := .ok, fields := halfBytes (t.versionAt i) }

/-- SET (R31, R34). -/
def State.set (s : State) (p : Port) (h : Handle) (v : Byte) : Done :=
  s.withHandle false h fun i r =>
    if isSystemSlot i then refuse s .denied
    else
      match s.writeRefusal p .level r with
      | some e => refuse s e
      | none => s.writeValue i r v

/-- SET (R34). -/
def execSet (p : Port) (s : State) : Host.Outcome State Fault Refusal :=
  .next (s.takeCommand p fun
    | .set h v => some fun t => t.set p h v
    | _ => none)

/-- SET_IF (R31, R35): the version check stands last; CONFLICT carries the present value and version. -/
def State.setIf (s : State) (p : Port) (h : Handle) (expected : Half) (v : Byte) : Done :=
  s.withHandle false h fun i r =>
    if isSystemSlot i then refuse s .denied
    else
      match s.writeRefusal p .level r with
      | some e => refuse s e
      | none =>
        if r.version ≠ expected then { state := s, status := .conflict, fields := r.value :: halfBytes r.version }
        else s.writeValue i r v

/-- SET_IF (R35). -/
def execSetIf (p : Port) (s : State) : Host.Outcome State Fault Refusal :=
  .next (s.takeCommand p fun
    | .setIf h expected v => some fun t => t.setIf p h expected v
    | _ => none)

/-- RAISE (R31, R36): the amount check stands after the system check and before the kind check. -/
def State.raise (s : State) (p : Port) (h : Handle) (n : Byte) : Done :=
  s.withHandle false h fun i r =>
    if isSystemSlot i then refuse s .denied
    else if n.toNat < 1 ∨ 15 < n.toNat then refuse s .badParam
    else
      match s.writeRefusal p .event r with
      | some e => refuse s e
      | none =>
        let t := s.change i (r.value + n) n.toNat
        { state := t, status := .ok, fields := t.valueAt i :: halfBytes (t.versionAt i) }

/-- RAISE (R36). -/
def execRaise (p : Port) (s : State) : Host.Outcome State Fault Refusal :=
  .next (s.takeCommand p fun
    | .raise h n => some fun t => t.raise p h n
    | _ => none)

/-- READ (R37). -/
def State.read (s : State) (h : Handle) : Done :=
  s.withHandle true h fun _ r =>
    { state := s, status := .ok, fields := r.value :: halfBytes r.version ++ [ownerByte r.owner] }

/-- READ (R37). -/
def execRead (p : Port) (s : State) : Host.Outcome State Fault Refusal :=
  .next (s.takeCommand p fun
    | .read h => some fun t => t.read h
    | _ => none)

/-- One item of a READ_GROUP answer: status, value, version (R39). -/
def State.readItem (s : State) (h : Handle) : List Byte :=
  match s.checkHandle true h with
  | .error e => [statusByte e, 0#8, 0#8, 0#8]
  | .ok (_, r) => statusByte .ok :: r.value :: halfBytes r.version

/-- READ_GROUP of 1 to 8 handles (R38). -/
def State.readGroup (s : State) (hs : List Handle) : Done :=
  if hs.length < 1 ∨ 8 < hs.length then refuse s .badParam
  else { state := s, status := .ok, fields := hs.flatMap s.readItem }

/-- READ_GROUP (R38). -/
def execReadGroup (p : Port) (s : State) : Host.Outcome State Fault Refusal :=
  .next (s.takeCommand p fun
    | .readGroup hs => some fun t => t.readGroup hs
    | _ => none)

end Sys2Proof.Machine
end

