-- ==== Sys2Proof/Machine/Dispatch.lean ====
section
/-! DEFINITION. exec: one arm per row of the opcode table. -/

namespace Sys2Proof.Machine

open Sys2Proof

def exec (i : Instr) (s : State) : Host.Outcome State Fault Refusal :=
  match i with
  | .coldReset => Sys2Proof.Machine.execColdReset s
  | .resetRelease board => Sys2Proof.Machine.execResetRelease board s
  | .tick board => Sys2Proof.Machine.execTick board s
  | .filterAccept g => Sys2Proof.Machine.execFilterAccept g s
  | .deadlineTimerRunOut p k => Sys2Proof.Machine.execDeadlineTimerRunOut p k s
  | .warningTimerRunOut d => Sys2Proof.Machine.execWarningTimerRunOut d s
  | .hello p body => Sys2Proof.Machine.execHello p body s
  | .submit p body => Sys2Proof.Machine.execSubmit p body s
  | .pull p body => Sys2Proof.Machine.execPull p body s
  | .resetLink p body => Sys2Proof.Machine.execResetLink p body s
  | .peek p body => Sys2Proof.Machine.execPeek p body s
  | .badFrame p form => Sys2Proof.Machine.execBadFrame p form s
  | .unknownKindFrame p kind body => Sys2Proof.Machine.execUnknownKindFrame p kind body s
  | .answerArrival p => Sys2Proof.Machine.execAnswerArrival p s
  | .eligibleIndication p => Sys2Proof.Machine.execEligibleIndication p s
  | .evictRequest p => Sys2Proof.Machine.execEvictRequest p s
  | .teardownCompletion p => Sys2Proof.Machine.execTeardownCompletion p s
  | .teardownRequest p => Sys2Proof.Machine.execTeardownRequest p s
  | .linkNotice p => Sys2Proof.Machine.execLinkNotice p s
  | .deadlineExpiryRequest p k => Sys2Proof.Machine.execDeadlineExpiryRequest p k s
  | .warningExpiryRequest d => Sys2Proof.Machine.execWarningExpiryRequest d s
  | .pinUpdateRequest g => Sys2Proof.Machine.execPinUpdateRequest g s
  | .declare p => Sys2Proof.Machine.execDeclare p s
  | .retire p => Sys2Proof.Machine.execRetire p s
  | .claim p => Sys2Proof.Machine.execClaim p s
  | .lookup p => Sys2Proof.Machine.execLookup p s
  | .lock p => Sys2Proof.Machine.execLock p s
  | .set p => Sys2Proof.Machine.execSet p s
  | .setIf p => Sys2Proof.Machine.execSetIf p s
  | .raise p => Sys2Proof.Machine.execRaise p s
  | .read p => Sys2Proof.Machine.execRead p s
  | .readGroup p => Sys2Proof.Machine.execReadGroup p s
  | .subscribe p => Sys2Proof.Machine.execSubscribe p s
  | .unsubscribe p => Sys2Proof.Machine.execUnsubscribe p s
  | .acquire p => Sys2Proof.Machine.execAcquire p s
  | .release p => Sys2Proof.Machine.execRelease p s
  | .releaseTop p => Sys2Proof.Machine.execReleaseTop p s
  | .threshold p => Sys2Proof.Machine.execThreshold p s
  | .serviceList p => Sys2Proof.Machine.execServiceList p s
  | .domainReset p => Sys2Proof.Machine.execDomainReset p s
  | .domainRelease p => Sys2Proof.Machine.execDomainRelease p s
  | .bindPin p found => Sys2Proof.Machine.execBindPin p found s
  | .unbindPin p => Sys2Proof.Machine.execUnbindPin p s
  | .pinQuery p => Sys2Proof.Machine.execPinQuery p s
  | .evict p => Sys2Proof.Machine.execEvict p s
  | .refclkRisingEdge => Sys2Proof.Machine.execRefclkRisingEdge s

end Sys2Proof.Machine
end

