-- ==== Sys2Proof/WellFormed.lean ====
section
/-! DEFINITION. Which terms of `Instr` name a step the part can meet. The operand types hold most of it; what is left
is the envelope of the frames: a taken frame's body is at most 40 bytes (a longer one is a bad frame, R128), and a frame
of unknown kind does not carry a known kind byte. -/

namespace Sys2Proof

/-- A body fits the envelope of section 8.2. -/
def bodyFits (body : List Byte) : Bool := body.length ≤ Config.maxBody

/-- The well-formedness of a row's operands. -/
def Instr.wf : Instr → Bool
  | .hello _ body => bodyFits body
  | .submit _ body => bodyFits body
  | .pull _ body => bodyFits body
  | .resetLink _ body => bodyFits body
  | .peek _ body => bodyFits body
  | .unknownKindFrame _ kind body => bodyFits body && (frameKindOf kind).isNone
  | .coldReset | .resetRelease _ | .tick _ | .filterAccept _ | .deadlineTimerRunOut _ _ | .warningTimerRunOut _
  | .badFrame _ _ | .answerArrival _ | .eligibleIndication _ | .evictRequest _ | .teardownCompletion _
  | .teardownRequest _ | .linkNotice _ | .deadlineExpiryRequest _ _ | .warningExpiryRequest _ | .pinUpdateRequest _
  | .declare _ | .retire _ | .claim _ | .lookup _ | .lock _ | .set _ | .setIf _ | .raise _ | .read _ | .readGroup _
  | .subscribe _ | .unsubscribe _ | .acquire _ | .release _ | .releaseTop _ | .threshold _ | .serviceList _
  | .domainReset _ | .domainRelease _ | .bindPin _ _ | .unbindPin _ | .pinQuery _ | .evict _ | .refclkRisingEdge => true

end Sys2Proof
end

