-- ==== Sys2Proof/Safety.lean ====
section
/-! DEFINITION. What the claims are said in: when the arbiter takes a command, what a change leaves of a record, of the pins
and of the ports, and the invariants the manual states of the whole part. -/

namespace Sys2Proof.Machine

open Sys2Proof

/-! ## Taking a command -/

/-- The engine takes now the command c with this tag from port p, and `rest` waits in p's submit queue behind it: the
command stands at the head of the queue, or, where a tick found it chosen, has left it (R145, assumption 19). -/
def Takes (s : State) (p : Port) (tag : Byte) (c : Command) (rest : List Queued) : Prop :=
  s.choice = some (.command p { tag := tag, command := c })
    ∧ if s.taking = none then s.ports[p].submit = { tag := tag, command := c } :: rest else s.ports[p].submit = rest

/-- The state after a command of p that altered nothing but p's own queue: the command has left it, its answer is on its
way, p is the last-served port, and no request is chosen (R143, R145, R147). -/
def State.answered (s : State) (p : Port) (rest : List Queued) (a : Answer) : State :=
  { s with
    ports := s.ports.set p { s.ports[p] with submit := rest, inAnswer := some a }
    lastServed := p
    taking := none }

/-- The handle names the record r, which stands in slot i with the handle's generation (R6). -/
def Names (s : State) (h : Handle) (i : SlotNo) (r : Record) : Prop :=
  h.slot.toNat = i.val ∧ s.slots[i].gen = h.gen ∧ s.slots[i].record = some r

/-- The command is answered with this status and no fields, and nothing else comes of it (R148). -/
def State.bare (s : State) (p : Port) (tag : Byte) (code : Opcode) (rest : List Queued) (status : Status) :
    Host.Outcome State Fault Refusal :=
  .next (s.answered p rest { tag := tag, code := code, status := status, fields := [] })

/-- The row by which the engine takes a command of this name from port p. -/
def rowOf (p : Port) (found : Option Level) : Opcode → Instr
  | .declare => .declare p
  | .retire => .retire p
  | .claim => .claim p
  | .lookup => .lookup p
  | .lock => .lock p
  | .set => .set p
  | .setIf => .setIf p
  | .raise => .raise p
  | .read => .read p
  | .readGroup => .readGroup p
  | .subscribe => .subscribe p
  | .unsubscribe => .unsubscribe p
  | .acquire => .acquire p
  | .release => .release p
  | .releaseTop => .releaseTop p
  | .threshold => .threshold p
  | .serviceList => .serviceList p
  | .domainReset => .domainReset p
  | .domainRelease => .domainRelease p
  | .bindPin => .bindPin p found
  | .unbindPin => .unbindPin p
  | .pinQuery => .pinQuery p
  | .evict => .evict p

/-- The handle of a command that carries one, READ_GROUP apart, and whether a DRAINING record passes its handle check (R6). -/
def handleOf : Command → Option (Handle × Bool)
  | .retire h | .claim h | .lock h | .set h _ | .setIf h _ _ | .raise h _ | .subscribe h _ _ _ _ _ _ | .unsubscribe h
  | .bindPin _ h _ _ _ => some (h, false)
  | .read h | .release h => some (h, true)
  | .declare .. | .lookup _ | .readGroup _ | .acquire | .releaseTop | .threshold _ | .serviceList | .domainReset ..
  | .domainRelease _ | .unbindPin _ | .pinQuery _ | .evict _ => none

/-- The CONTROL commands of Table 9-3. -/
def controlCommands : List Opcode := [.lock, .domainReset, .domainRelease, .bindPin, .unbindPin, .evict]

/-- The statuses of a refusal, and those of an outcome that changes nothing (R148). -/
def unchangingStatuses : List Status :=
  [.unchanged, .none, .busy, .already, .badParam, .notFound, .stale, .draining, .idInUse, .tableFull, .poolFull, .notOwner,
   .owned, .locked, .denied, .domainHeld, .conflict, .inService, .notSubscribed, .notInService, .bound, .notBound, .notOpen]

/-! ## The codes a SUBSCRIBE and a DECLARE carry (Table 11-5) -/

/-- 00H RETAIN, 01H DEFAULT, 02H RETIRE. -/
def policyByte : Policy → Byte
  | .retain => 0x00#8
  | .toDefault => 0x01#8
  | .retire => 0x02#8

/-- 00H ANY, 01H RISE, 02H FALL, 03H EQUAL, 04H EACH. -/
def condByte : Cond → Byte
  | .any => 0x00#8
  | .rise => 0x01#8
  | .fall => 0x02#8
  | .equal _ => 0x03#8
  | .each => 0x04#8

/-- 00H LATCHED, 01H HELD. -/
def modeByte : Mode → Byte
  | .latched => 0x00#8
  | .held => 0x01#8

/-- Table 3-2 by its refusals: EACH stands with EVENT and LATCHED, and nothing else does; HELD takes no ANY. -/
def Accepted (kind : Kind) (c : Cond) (m : Mode) : Prop :=
  match kind with
  | .level => c ≠ .each ∧ (m = .held → c ≠ .any)
  | .event => c = .each ∧ m = .latched

/-- The parameters ask for the subscription `new` on a record of this kind in slot i (R44, R45, R46). -/
def AskedBy (new : Sub) (i : SlotNo) (kind : Kind) (prio cond matchValue mode cls attrs : Byte) : Prop :=
  new.mark = none ∧ prio.toNat = new.priority.val ∧ cls.toNat = new.cls.val
    ∧ attrs.getLsbD 0 = new.keep ∧ attrs.getLsbD 1 = new.guard
    ∧ if new.guard = true then (12 ≤ i.val ∧ i.val < 20) ∧ new.cond = .any ∧ new.mode = .latched
      else
        cond = condByte new.cond ∧ mode = modeByte new.mode ∧ Accepted kind new.cond new.mode
          ∧ (new.cond = .equal matchValue ∨ cond ≠ 0x03#8)

/-! ## What a happening leaves -/

/-- From s to t, the record in slot i has made one change to the value v: version one higher, each subscription evaluated,
every other field and the generation as before (R25, R26, R28). A FREE slot has no change to make. -/
def SlotChanged (s t : State) (i : SlotNo) (v : Byte) (amount : Nat) : Prop :=
  match s.slots[i].record with
  | none => t.slots[i] = s.slots[i]
  | some r =>
    t.slots[i] =
      { gen := s.slots[i].gen
        record := some
          { r with
            value := v
            version := r.version + 1
            subs := Vector.ofFn fun q : Port =>
              (r.subs[q]).map fun u => u.afterChange (s.inService q i) r.value v amount } }

/-- From s to t, the record in slot i has been given the value v: a change where it differed, else nothing (R27). -/
def SlotGiven (s t : State) (i : SlotNo) (v : Byte) : Prop :=
  if s.valueAt i = v then t.slots[i] = s.slots[i] else SlotChanged s t i v 0

/-- From s to t, no slot but those named differs. -/
def OtherSlotsStand (s t : State) (named : List SlotNo) : Prop := ∀ j : SlotNo, j ∉ named → t.slots[j] = s.slots[j]

/-- The default to which a sweep of d returns the record in slot i of s; none where the sweep passes over it (R103). -/
def State.sweptTo (s : State) (d : Dom) (i : SlotNo) : Option Byte :=
  match s.slots[i].record with
  | none => none
  | some r =>
    r.dflt.filter fun v =>
      Config.firstUserSlot ≤ i.val ∧ r.state = .live ∧ r.domain = some d ∧ r.kind = .level ∧ r.locked = false ∧ r.value ≠ v

/-- From s to t, the user slots have been swept for d: each record the sweep returns to its default has made that one
change, and no other user slot differs (R103). -/
def Swept (s t : State) (d : Dom) : Prop :=
  ∀ i : SlotNo, Config.firstUserSlot ≤ i.val →
    match s.sweptTo d i with
    | some v => SlotChanged s t i v 0
    | none => t.slots[i] = s.slots[i]

/-- How many records a sweep of d changes (R97). -/
def State.sweptCount (s : State) (d : Dom) : Nat := (List.finRange 128).countP fun i => (s.sweptTo d i).isSome

/-- From s to t the pins stand, but that a pin OUTPUT-bound to a record that has changed is driven from the value the record
holds in t (R28, R116). -/
def PinsFollow (s t : State) : Prop :=
  ∀ g : Pin, t.pins[g] =
    match s.pins[g].binding with
    | none => s.pins[g]
    | some b =>
      if b.dir = .output ∧ s.boundPin b.slot = some g ∧ t.versionAt b.slot ≠ s.versionAt b.slot then
        { s.pins[g] with driver := .driving (driveLevel b.active (t.valueAt b.slot)) }
      else s.pins[g]

/-- From s to t the ports stand, but for the eligible indications on their way to them. -/
def PortsStand (s t : State) : Prop :=
  ∀ q : Port, t.ports[q] = { s.ports[q] with inIndication := t.ports[q].inIndication }

/-- From s to t, port q's pending set differs: one of its subscriptions has come to be pending, or ceased to be (R58). -/
def PendingSetDiffers (s t : State) (q : Port) : Prop := ∃ i : SlotNo, isPending (s.subAt i q) ≠ isPending (t.subAt i q)

/-- The indications on their way in t after a happening from s (R63): each carries whether its port has an eligible
subscription in t; one is on its way to every port whose pending set differs, and to the ports owed one. -/
def IndicationsSent (s t : State) (owed : List Port) : Prop :=
  ∀ q : Port, (t.ports[q].inIndication = none ∨ t.ports[q].inIndication = some (t.anyEligible q))
    ∧ (PendingSetDiffers s t q ∨ q ∈ owed → t.ports[q].inIndication = some (t.anyEligible q))

/-- As `IndicationsSent`, and to no other port. -/
def IndicationsExact (s t : State) (owed : List Port) : Prop :=
  IndicationsSent s t owed
    ∧ ∀ q : Port, t.ports[q].inIndication.isSome = true → PendingSetDiffers s t q ∨ q ∈ owed

/-- From s to t, the record in slot i makes one change to v, and everything that follows a change follows (R28); nothing
else differs. -/
def OneChange (s t : State) (i : SlotNo) (v : Byte) (amount : Nat) : Prop :=
  t = { s with slots := t.slots, pins := t.pins, ports := t.ports }
    ∧ SlotChanged s t i v amount ∧ OtherSlotsStand s t [i] ∧ PinsFollow s t ∧ PortsStand s t ∧ IndicationsExact s t []

/-- From s to t, the record in slot i is given the value v: one change where it differs; else nothing differs (R27). -/
def GivenValue (s t : State) (i : SlotNo) (v : Byte) : Prop :=
  if s.valueAt i = v then t = s else OneChange s t i v 0

/-! ## Service -/

/-- R62, condition by condition: u is the subscription of p on slot i, and it is eligible. -/
def Eligible (s : State) (p : Port) (i : SlotNo) (u : Sub) : Prop :=
  s.subAt i p = some u ∧ u.mark.isSome = true ∧ u.priority.val < s.services[p].threshold.val
    ∧ ∀ e ∈ s.services[p].list, ∀ w ∈ s.subAt e.slot p, u.priority < w.priority

/-- R66: the eligible subscription ACQUIRE selects. No eligible one has a lower priority number, and none of the same number
comes earlier in the round of slots that starts after the pointer. -/
def SelectedBy (s : State) (p : Port) (i : SlotNo) (u : Sub) : Prop :=
  Eligible s p i u
    ∧ ∀ j : SlotNo, ∀ w ∈ s.subAt j p, Eligible s p j w →
        u.priority < w.priority
          ∨ (u.priority = w.priority
              ∧ (i - s.services[p].rotation[u.priority] - 1).val ≤ (j - s.services[p].rotation[u.priority] - 1).val)

/-- The priority of port p's subscription on slot i; 8 where it has none. -/
def State.priorityAt (s : State) (p : Port) (i : SlotNo) : Nat :=
  match s.subAt i p with
  | some u => u.priority.val
  | none => 8

/-- From s to t, the deadline timer of (p, k) has been cancelled and no other timer, and no flag, differs (R86). -/
def TimerCancelled (s t : State) (p : Port) (k : Prio) : Prop :=
  ∀ q : Port, ∀ j : Prio, t.deadlines[q][j] =
    if q = p ∧ j = k then { s.deadlines[q][j] with timer := none } else s.deadlines[q][j]

/-- A subscription after it is evaluated, if HELD, against a standing value (R49, R75, R153). -/
def Sub.settled (u : Sub) (value : Byte) : Sub :=
  if u.mode = .held ∧ holds u.cond value = true ∧ u.mark = none then { u with mark := some { count := 1, snap := value } }
  else u

/-! ## Happenings of several stages

Each relation says what one stage leaves; the eligible indications, which are sent once at the end of a happening, are said
by `Ends`. -/

/-- The record in slot i is given the value v, and what follows a change follows (R25 to R28). -/
def ValueGiven (s m : State) (i : SlotNo) (v : Byte) : Prop :=
  m = { s with slots := m.slots, pins := m.pins } ∧ SlotGiven s m i v ∧ OtherSlotsStand s m [i] ∧ PinsFollow s m

/-- Domain d is swept and its DOMAIN record takes 2; its entry in the Domain Table becomes `x` (R97, R101, R103). -/
def SweptInto (s m : State) (d : Dom) (x : DomainEntry) : Prop :=
  m = { s with slots := m.slots, pins := m.pins, domains := s.domains.set d x }
    ∧ Swept s m d ∧ SlotGiven s m (domainSlot d) 2#8
    ∧ (∀ j : SlotNo, j.val < Config.firstUserSlot → j ≠ domainSlot d → m.slots[j] = s.slots[j])
    ∧ PinsFollow s m

/-- A warning of d ends (R101): its timer is IDLE, nobody is awaited, the domain is swept and HELD, no timeout is in force,
and the serial and the flag stand. -/
def WarningEnds (s m : State) (d : Dom) : Prop :=
  SweptInto { s with warnings := s.warnings.set d { s.warnings[d] with timer := none } } m d
    { state := .held, awaited := Vector.replicate 6 false, serial := s.domains[d].serial, timeout := 0#8 }

/-- Port p leaves d's awaited set if it is in it and d is in WARNING; the warning ends with the last departure (R100). -/
def Departs (s m : State) (d : Dom) (p : Port) : Prop :=
  if s.domains[d].state = .warning ∧ s.domains[d].awaited[p] = true then
    if ∀ q : Port, q ≠ p → s.domains[d].awaited[q] = false then WarningEnds s m d
    else m = { s with domains := s.domains.set d { s.domains[d] with awaited := s.domains[d].awaited.set p false } }
  else m = s

/-- A subscription that carried GUARD and no longer stands on slot i takes its port out of the awaited set (R48, R50, R77). -/
def GuardGone (s m : State) (i : SlotNo) (p : Port) : Prop :=
  match domainOfSlot i with
  | some d => Departs s m d p
  | none => m = s

/-- Stage 4 of a release by p: on a LIVE record the subscription is settled; on a DRAINING one it is removed, and the record
becomes FREE and its id leaves the Id Map when it was the last (R75, R76, R19). -/
def Settles (s m : State) (i : SlotNo) (p : Port) : Prop :=
  match s.slots[i].record with
  | none => m = s
  | some r =>
    match r.state with
    | .live =>
      m = { s with
            slots := s.slots.set i
              { s.slots[i] with record := some { r with subs := r.subs.set p ((r.subs[p]).map fun u => u.settled r.value) } } }
    | .draining =>
      if ∀ q : Port, q ≠ p → r.subs[q] = none then
        m = { s with
              slots := s.slots.set i { s.slots[i] with record := none }
              idMap := s.idMap.filter fun e => e.1 ≠ r.id }
      else m = { s with slots := s.slots.set i { s.slots[i] with record := some { r with subs := r.subs.set p none } } }

/-- The happening that began in s and whose stages have come to m ends in t: indications are on their way, to the ports
whose pending set differs and to those owed one, and to no other (R63). -/
def Ends (s m t : State) (owed : List Port) : Prop :=
  t = { m with ports := t.ports } ∧ PortsStand m t ∧ IndicationsExact s t owed

/-- The service entry e of p, on its subscription u of the record in slot i, ends by the stages of R72, from s to t, and the
release is answered with a. -/
def EntryEnds (s t : State) (p : Port) (rest : List Queued) (a : Answer) (e : Entry) (u : Sub) : Prop :=
  ∃ b m1 m2 m3 : State,
    b = { s.answered p rest a with
          services := s.services.set p { s.services[p] with list := s.services[p].list.filter fun x => x.slot ≠ e.slot }
          deadlines := b.deadlines }
    ∧ (if u.cls = 0 then b.deadlines = s.deadlines else TimerCancelled s b p u.priority)
    ∧ (if e.overdue = true then ValueGiven b m1 (overdueSlot p) (s.valueAt (overdueSlot p) - 1#8) else m1 = b)
    ∧ Settles m1 m2 e.slot p
    ∧ (if u.guard = true then GuardGone m2 m3 e.slot p else m3 = m2)
    ∧ Ends s m3 t [p]

/-- The fields of a release answer (R73, Table 11-8). -/
def releaseBytes (s t : State) (p : Port) (r : Record) (e : Entry) : List Byte :=
  [byteOf e.slot, s.slots[e.slot].gen, e.token,
    (if e.overdue = true then 1#8 else 0#8) + (if isPending (t.subAt e.slot p) = true then 2#8 else 0#8)
      + (if r.state = .draining then 4#8 else 0#8)]

/-- The value DOMAIN_RELEASE re-applies to slot i of domain d: that of the accepted level of the pin INPUT-bound to its LIVE
record (R106). -/
def State.reappliedTo (s : State) (d : Dom) (i : SlotNo) : Option Byte :=
  match s.slots[i].record, s.boundPin i with
  | some r, some g =>
    match s.pins[g].binding, s.pins[g].input with
    | some b, some f =>
      if r.state = .live ∧ r.domain = some d ∧ b.dir ≠ .output then some (if f.accepted = b.active then 1#8 else 0#8)
      else none
    | _, _ => none
  | _, _ => none

/-- From s to m, a HELD domain d has come back to RUN: its DOMAIN record at 0, each record with an accepted level to
re-apply given its value, every other slot as before (R106). -/
def Reapplied (s m : State) (d : Dom) : Prop :=
  m = { s with slots := m.slots, pins := m.pins, domains := s.domains.set d { s.domains[d] with state := .run } }
    ∧ SlotGiven s m (domainSlot d) 0#8
    ∧ (∀ i : SlotNo, i ≠ domainSlot d →
        match s.reappliedTo d i with
        | some v => SlotGiven s m i v
        | none => m.slots[i] = s.slots[i])
    ∧ PinsFollow s m

/-- How many records the re-application changes (R106). -/
def State.reappliedCount (s : State) (d : Dom) : Nat :=
  (List.finRange 128).countP fun i => (s.reappliedTo d i).any fun v => s.valueAt i ≠ v

/-! ## Teardown (Chapter 10)

What the seven stages together leave, slot by slot and pin by pin, each read from the state s in which the teardown of p is
taken. -/

/-- p is awaited in the warning of d, and alone: its teardown ends the warning (R155, R100). -/
def State.lastAwaited (s : State) (d : Dom) (p : Port) : Bool :=
  decide (s.domains[d].state = .warning ∧ s.domains[d].awaited[p] = true
    ∧ ∀ q : Port, q ≠ p → s.domains[d].awaited[q] = false)

/-- The record is one to which the teardown of p applies the orphan policy: LIVE, unlocked, owned by p (R156). -/
def Record.orphanOf (r : Record) (p : Port) : Bool := decide (r.state = .live ∧ r.owner = .port p ∧ r.locked = false)

/-- The teardown of p retires the record (R157). -/
def Record.retiredBy (r : Record) (p : Port) : Bool := r.orphanOf p && decide (r.policy = some .retire)

/-- The teardown of p returns the LEVEL record to its default: by the sweep of a domain whose warning it ends, or by its
orphan policy (R101, R103, R156). -/
def State.defaultedBy (s : State) (p : Port) (r : Record) : Bool :=
  decide (r.kind = .level)
    && (r.domain.any (fun d => s.lastAwaited d p && decide (r.locked = false))
        || (r.orphanOf p && decide (r.policy = some .toDefault)))

/-- The value the teardown of p leaves in the LIVE record r of slot i: 0 in p's OVERDUE record, 2 or 0 in its LINK record, 2
in the DOMAIN record of a domain whose warning it ends, the default in a record it returns to it; else the value held. -/
def State.valueTornDown (s : State) (p : Port) (i : SlotNo) (r : Record) : Byte :=
  if i = overdueSlot p then 0#8
  else if i = linkSlot p then (if s.ports[p].link = .closing .fault then 2#8 else 0#8)
  else if (domainOfSlot i).any (fun d => s.lastAwaited d p) = true then 2#8
  else if s.defaultedBy p r = true then r.dflt.getD r.value
  else r.value

/-- Port q's subscription after a teardown of p that leaves the value v in the LIVE record r of slot i: p keeps those with
KEEP, evaluated on the value held if HELD (R153), and every subscription left is evaluated at the change, if there is one. -/
def State.subTornDown (s : State) (p : Port) (i : SlotNo) (r : Record) (v : Byte) (q : Port) : Option Sub :=
  let left := if q = p then (r.subs[q].filter (·.keep)).map fun u => u.settled r.value else r.subs[q]
  if v = r.value then left
  else left.map fun u => u.afterChange (decide (q ≠ p) && s.inService q i) r.value v 0

/-- What a record retired by the teardown of p, or DRAINING before it, keeps of its subscriptions: those of other ports that
are in service, without a mark; none of p (R152, R157, R16). -/
def State.servedElsewhere (s : State) (p : Port) (i : SlotNo) (r : Record) : Vector (Option Sub) 6 :=
  Vector.ofFn fun q : Port =>
    if q ≠ p ∧ s.inService q i = true then (r.subs[q]).map fun u => { u with mark := none } else none

/-- The record the teardown of p leaves in slot i, of the record r it finds there. A LIVE record has the value
`valueTornDown`, by one change where it differs. One that is retired, or was DRAINING, is DRAINING while another port has it
in service, and else the slot is FREE; its owner stands. An orphan that is not retired is owned by NONE, and every other owner
stands (R152 to R158, R19). -/
def State.recordTornDown (s : State) (p : Port) (i : SlotNo) (r : Record) : Option Record :=
  let v := if r.state = .live then s.valueTornDown p i r else r.value
  let version := if v = r.value then r.version else r.version + 1
  if r.state = .draining ∨ r.retiredBy p = true then
    if ∀ q : Port, (s.servedElsewhere p i r)[q] = none then none
    else some { r with state := .draining, value := v, version := version, subs := s.servedElsewhere p i r }
  else
    some { r with
      value := v
      version := version
      owner := if r.orphanOf p = true then .nobody else r.owner
      subs := Vector.ofFn fun q : Port => s.subTornDown p i r v q }

/-- The pin the teardown of p leaves: high impedance and unbound if its record is retired, driven from the value left if it
is OUTPUT-bound to a record that changes, and as it was otherwise (R28, R116, R121, R157). -/
def State.pinTornDown (s : State) (p : Port) (x : PinState) : PinState :=
  match x.binding with
  | none => x
  | some b =>
    match s.slots[b.slot].record with
    | none => x
    | some r =>
      if r.retiredBy p = true then { x with binding := none, input := none, driver := .highZ }
      else if b.dir = .output ∧ s.valueTornDown p b.slot r ≠ r.value then
        { x with driver := .driving (driveLevel b.active (s.valueTornDown p b.slot r)) }
      else x

/-- The Domain Table entry and the warning timer of d after the teardown of p (R155, R100, R101). -/
def State.domainTornDown (s : State) (p : Port) (d : Dom) : DomainEntry × WarningUnit :=
  if s.lastAwaited d p = true then
    ({ state := .held, awaited := Vector.replicate 6 false, serial := s.domains[d].serial, timeout := 0#8 },
      { s.warnings[d] with timer := none })
  else if s.domains[d].state = .warning then
    ({ s.domains[d] with awaited := s.domains[d].awaited.set p false }, s.warnings[d])
  else (s.domains[d], s.warnings[d])

/-! ## Invariants -/

/-- The engine has chosen a command of port p at a tick and not yet carried it out. -/
def State.chosenAt (s : State) (p : Port) : Bool :=
  match s.taking with
  | some (.command q _) => q = p
  | some _ | none => false

/-- R124 and R146: a submit queue holds at most 4 commands and an answer queue at most 8 answers, with the answer on its way
and that of a command chosen counted; both are empty unless the port is OPEN; only the head of a non-empty queue is
outstanding. -/
def QueuesWithin (s : State) : Prop :=
  ∀ p : Port, (s.ports[p]).submit.length ≤ 4
    ∧ (s.ports[p]).answers.length + (if (s.ports[p]).inAnswer.isSome then 1 else 0) + (if s.chosenAt p then 1 else 0) ≤ 8
    ∧ ((s.ports[p]).link ≠ .opened → (s.ports[p]).submit = [] ∧ (s.ports[p]).answers = [])
    ∧ ((s.ports[p]).outstanding.isSome → (s.ports[p]).answers ≠ [])

/-- The id of the record in a slot, if it holds one. -/
def State.idAt (s : State) (i : SlotNo) : Option Half := s.slots[i].record.map (·.id)

/-- R5: the Id Map holds exactly the ids of LIVE and DRAINING records, each mapped to its record's slot; it stands in
ascending id order, so that no id is in it twice and equal maps are equal lists. -/
def IdMapExact (s : State) : Prop :=
  s.idMap.Pairwise (fun a b => a.1.toNat < b.1.toNat)
    ∧ (∀ e ∈ s.idMap, s.idAt e.2 = some e.1)
    ∧ ∀ i : SlotNo, ∀ id ∈ s.idAt i, (id, i) ∈ s.idMap

/-- What a record in a system slot keeps from reset release to the next cold reset (R7, R8): everything but its value,
its version and its subscriptions. -/
def SystemForm (o : Option Record) (id : Half) : Prop :=
  match o with
  | some r =>
    r.state = .live ∧ r.id = id ∧ r.kind = .level ∧ r.dflt = none ∧ r.domain = none ∧ r.owner = .system
      ∧ r.policy = none ∧ r.locked = false
  | none => False

/-- R8 and R93: with RST# high, every system slot holds generation 1 and its own LIVE system record, no pin is bound to
one, and each DOMAIN record shows its domain's state. -/
def SystemRecordsStand (s : State) : Prop :=
  s.rstLow = false →
    (∀ i : SlotNo, ∀ id ∈ systemId i, s.slots[i].gen = 1#8 ∧ SystemForm s.slots[i].record id)
    ∧ (∀ g : Pin, ∀ b ∈ s.pins[g].binding, Config.firstUserSlot ≤ b.slot.val)
    ∧ ∀ d : Dom, s.valueAt (domainSlot d) = domStateByte s.domains[d].state

/-- R70: every service entry is that of a subscription of its own port, and the priority numbers strictly decrease from
the oldest entry to the newest. -/
def ServiceListsOrdered (s : State) : Prop :=
  ∀ p : Port, (∀ e ∈ s.services[p].list, (s.subAt e.slot p).isSome)
    ∧ s.services[p].list.Pairwise (fun older newer => s.priorityAt p newer.slot < s.priorityAt p older.slot)

/-- R89: with RST# high, the value of each OVERDUE record is the number of OVERDUE entries in its port's service list. -/
def OverdueCounted (s : State) : Prop :=
  s.rstLow = false → ∀ p : Port, (s.valueAt (overdueSlot p)).toNat = (s.services[p]).list.countP (·.overdue)

/-- R107: every LIVE, unlocked LEVEL record of a HELD domain in a user slot holds its default. -/
def HeldAtDefault (s : State) : Prop :=
  ∀ i : SlotNo, Config.firstUserSlot ≤ i.val → ∀ r ∈ s.slots[i].record, r.state = .live → r.locked = false →
    r.kind = .level → s.domainHeld r.domain = true → ∀ v ∈ r.dflt, r.value = v

/-- R100: a domain's awaited set is empty unless the domain is in WARNING, and holds only ports that hold a GUARD
subscription on its DOMAIN record. -/
def AwaitedAreGuards (s : State) : Prop :=
  ∀ d : Dom, ∀ p : Port, s.domains[d].awaited[p] = true →
    s.domains[d].state = .warning ∧ (s.subAt (domainSlot d) p).any (·.guard) = true

/-- The record a binding of pin g names, as the binding needs it: a LIVE LEVEL record, and for INPUT an unlocked one
owned by the pin (R4, R22, R113, R119). -/
def BindingHolds (o : Option Record) (g : Pin) (b : Binding) : Prop :=
  match o with
  | some r => r.state = .live ∧ r.kind = .level ∧ (b.dir ≠ .output → r.owner = .pin g ∧ r.locked = false)
  | none => False

/-- Pin g has an INPUT binding on slot i. -/
def InputBoundTo (x : PinState) (i : SlotNo) : Prop :=
  match x.binding with
  | some b => b.slot = i ∧ b.dir ≠ .output
  | none => False

/-- The wire side of a pin agrees with its binding (Table 7-1): a filter exactly while INPUT-bound, a driver that drives
exactly while OUTPUT-bound. -/
def WireAgrees (x : PinState) : Prop :=
  match x.binding with
  | none => x.input = none ∧ x.driver = .highZ
  | some b =>
    match b.dir with
    | .input _ => x.input.isSome = true ∧ x.driver = .highZ
    | .output => x.input = none ∧ x.driver ≠ .highZ

/-- R109 and R4: what a binding names is as the binding needs it; each record is bound to at most one pin; a record owned
by a pin is that pin's INPUT-bound record; and the wire side of each pin agrees with its binding. -/
def BindingsStand (s : State) : Prop :=
  (∀ g : Pin, ∀ b ∈ s.pins[g].binding, BindingHolds s.slots[b.slot].record g b)
    ∧ (∀ g h : Pin, ∀ b ∈ s.pins[g].binding, ∀ c ∈ s.pins[h].binding, b.slot = c.slot → g = h)
    ∧ (∀ i : SlotNo, ∀ r ∈ s.slots[i].record, ∀ g : Pin, r.owner = .pin g → InputBoundTo s.pins[g] i)
    ∧ ∀ g : Pin, WireAgrees s.pins[g]

/-- R116: an OUTPUT-bound pin is driven at its active level while its record's value is nonzero, and at its inactive level
while the value is zero. -/
def OutputsFollow (s : State) : Prop :=
  ∀ g : Pin, ∀ b ∈ s.pins[g].binding, b.dir = .output →
    s.pins[g].driver = .driving (driveLevel b.active (s.valueAt b.slot))

/-- R18: every subscription of a DRAINING record is in service and none is pending, and the record has at least one. -/
def DrainingInService (s : State) : Prop :=
  ∀ i : SlotNo, ∀ r ∈ s.slots[i].record, r.state = .draining →
    r.noSubs = false ∧ ∀ p : Port, ∀ u ∈ r.subs[p], s.inService p i = true ∧ u.mark = none

/-- R41: the Subscription Pool never holds more than 192 entries. -/
def PoolWithin (s : State) : Prop := s.poolInUse ≤ 192

/-- R42: the count of a pending subscription is at least 1 (at most 15 by its type), and that of a HELD one is 1. -/
def MarksCounted (s : State) : Prop :=
  ∀ i : SlotNo, ∀ p : Port, ∀ u ∈ s.subAt i p, ∀ m ∈ u.mark, 1 ≤ m.count.val ∧ (u.mode = .held → m.count.val = 1)

/-- R23: from s to t, every LIVE locked user record is still LIVE and locked, under the same generation, with the same id,
kind, value, version, default, domain, owner and orphan policy. -/
def LockedRecordsKept (s t : State) : Prop :=
  ∀ i : SlotNo, Config.firstUserSlot ≤ i.val → ∀ r ∈ s.slots[i].record, r.state = .live → r.locked = true →
    t.slots[i].gen = s.slots[i].gen
      ∧ match t.slots[i].record with
        | some r' => r' = { r with subs := r'.subs }
        | none => False

end Sys2Proof.Machine
end

