-- ==== Sys2Proof/Certificates/Slice0/Obligations.lean ====
section
/-! DEFINITION. The statements put to the provers, chapter by chapter of the manual. In a statement about a command, `Takes`
says that the engine takes it now, from the head of p's queue or as the arbiter chose it there before a tick;
`s.answered p rest a` is the state in which nothing but that taking and its answer a has come about; and `s.taken r` is the
state in which nothing but the taking of the internal request r has (ArbiterChoosesInOrder says both cases of it). -/

open Sys2Proof Sys2Proof.Machine

/-! ## The step -/

/-- One step is exec of the step at the front of the queue, on the state with the queue's rest; with an empty queue the part
idles. The queue and its idling are the model's own (assumption 8). -/
def Obligations.StepRunsTheFrontStep : Prop :=
  (∀ (c : Instr) (s : State) (rest : List Instr), s.pending = c :: rest → step s = exec c { s with pending := rest })
    ∧ ∀ s : State, s.pending = [] → step s = .next s

/-- Every step of the part, in every state, has an outcome at which the part goes on, and leaves the queue of the waiting
steps as it is. A row named out of its occasion does nothing: a release with RST# high, a tick at another count than 31 or
before the last one is done, a run-out or an acceptance that is not due, a delivery that is not on its way, a command that is
not the one at the head. These are the model's own reading of a row that cannot happen (assumption 3). -/
def Obligations.EveryStepGoesOn : Prop :=
  (∀ (c : Instr) (s : State), ∃ t, exec c s = .next t ∧ t.pending = s.pending)
    ∧ ∀ s : State,
      (∀ board, s.rstLow = false → exec (.resetRelease board) s = .next s)
      ∧ (∀ board, s.rstLow = true ∨ s.divider ≠ 31 ∨ s.tickUnfinished = true → exec (.tick board) s = .next s)
      ∧ (s.divider = 31 → exec .refclkRisingEdge s = .next s)
      ∧ (∀ p k, s.deadlines[p][k].runOutDue = false → exec (.deadlineTimerRunOut p k) s = .next s)
      ∧ (∀ d, s.warnings[d].runOutDue = false → exec (.warningTimerRunOut d) s = .next s)
      ∧ (∀ g, s.pins[g].acceptDue = false → exec (.filterAccept g) s = .next s)
      ∧ (∀ p, s.ports[p].inAnswer = none → exec (.answerArrival p) s = .next s)
      ∧ (∀ p, s.ports[p].inIndication = none → exec (.eligibleIndication p) s = .next s)
      ∧ (∀ p, s.ports[p].inEvict = false → exec (.evictRequest p) s = .next s)
      ∧ (∀ p, s.ports[p].inCompletion = false → exec (.teardownCompletion p) s = .next s)
      ∧ ∀ p tag c rest found o, Takes s p tag c rest → o ≠ c.opcode → exec (rowOf p found o) s = .next s

/-! ## Reset and time (Chapters 1, 5, 7, 8) -/

/-- COLD_RESET: every item the manual gives a cold reset value has it (R3, R11, R41, R61, R81, R83, R91, R92, R109, R124,
R143), no port is CLOSING, so that no closing cause stands (Table 8-2), the engine takes nothing, and no ATTN# is
asserted. -/
def Obligations.ColdResetClearsThePart : Prop :=
  ∀ s : State, ∃ t, exec .coldReset s = .next t
    ∧ t.rstLow = true ∧ t.divider = 0 ∧ t.idMap = [] ∧ t.lastServed = 5 ∧ t.taking = none ∧ t.choice = none
    ∧ (∀ i : SlotNo, t.slots[i] = { gen := 0#8, record := none })
    ∧ (∀ (p : Port) (k : Prio), t.deadlines[p][k] = { timer := none, flag := none })
    ∧ (∀ d : Dom, t.warnings[d] = { timer := none, flag := none }
        ∧ t.domains[d] = { state := .run, awaited := Vector.replicate 6 false, serial := 0#8, timeout := 0#8 })
    ∧ (∀ p : Port, t.services[p] = { list := [], threshold := 8, rotation := Vector.replicate 8 127, tokenCounter := 0#8 })
    ∧ (∀ g : Pin, t.pins[g].input = none ∧ t.pins[g].driver = .highZ ∧ t.pins[g].flag = none ∧ t.pins[g].binding = none
        ∧ t.pins[g].serialCounter = 0#8)
    ∧ ∀ p : Port, t.ports[p].badCount = 0 ∧ t.ports[p].submit = [] ∧ t.ports[p].answers = []
        ∧ t.ports[p].outstanding = none ∧ t.ports[p].nextSeq = 0#4 ∧ t.ports[p].eligible = false
        ∧ t.ports[p].notice = none ∧ t.ports[p].teardown = false ∧ t.ports[p].inAnswer = none
        ∧ t.ports[p].inIndication = none ∧ t.ports[p].inEvict = false ∧ t.ports[p].inCompletion = false
        ∧ (∀ c : Cause, t.ports[p].link ≠ .closing c) ∧ t.attn p = false

/-- RESET_RELEASE: each pin is sampled once; GP0 to GP5 enable the ports and GP6 to GP11 give their classes; the twenty
system records stand in slots 0 to 19 with generation 1 as Table 1-8 arranges them, and their ids fill the Id Map; the user
slots are FREE with generation 0; everything else is as cold reset left it. -/
def Obligations.ResetReleaseBuildsTheDirectory : Prop :=
  ∀ (s : State) (board : Board), s.rstLow = true → ∃ t, exec (.resetRelease board) s = .next t
    ∧ t = { State.reset with pending := s.pending, rstLow := false, slots := t.slots, idMap := t.idMap, pins := t.pins,
                             ports := t.ports, samples := s.samples + 1 }
    ∧ (∀ g : Pin, t.pins[g] = { PinState.cold with raw := t.pins[g].raw } ∧ ∀ l ∈ board[g], t.pins[g].raw = l)
    ∧ (∀ p : Port, t.ports[p] = { PortState.cold with
          enabled := decide (t.pins[p.val].raw = .high)
          cls := if t.pins[p.val + 6].raw = .high then .control else .member
          link := if t.pins[p.val].raw = .high then .closed else .off })
    ∧ (∀ p : Port, t.slots[linkSlot p] =
        { gen := 1#8
          record := some
            { state := .live, id := 0xFF00#16 + BitVec.ofNat 16 p.val, kind := .level
              value := if t.pins[p.val].raw = .high then 0#8 else 3#8
              version := 0#16, dflt := none, domain := none, owner := .system, policy := none, locked := false
              subs := Vector.replicate 6 none } })
    ∧ (∀ p : Port, t.slots[overdueSlot p] =
        { gen := 1#8
          record := some
            { state := .live, id := 0xFF10#16 + BitVec.ofNat 16 p.val, kind := .level, value := 0#8, version := 0#16
              dflt := none, domain := none, owner := .system, policy := none, locked := false
              subs := Vector.replicate 6 none } })
    ∧ (∀ d : Dom, t.slots[domainSlot d] =
        { gen := 1#8
          record := some
            { state := .live, id := 0xFF20#16 + BitVec.ofNat 16 d.val, kind := .level, value := 0#8, version := 0#16
              dflt := none, domain := none, owner := .system, policy := none, locked := false
              subs := Vector.replicate 6 none } })
    ∧ (∀ i : SlotNo, 20 ≤ i.val → t.slots[i] = { gen := 0#8, record := none })
    ∧ IdMapExact t

/-- REFCLK_RISING_EDGE and TICK: the divider counts each rising edge from 0 up to 31 and passes from 31 to 0 at the tick;
while RST# is low it stands. At the tick every RUNNING timer has one tick less and no flag moves, every pin is sampled, and
the filter of each INPUT-bound pin runs once by Table 7-3, its acceptance being left to FILTER_ACCEPT (assumption 4: the
next tick falls when what belongs to this one has happened). A request that stands before a free engine when the tick falls is
held as chosen, its flag clear or its command out of the queue, as ArbiterChoosesInOrder says of `engaged` (assumption 19). A
pin that the board and the part do not drive against each
other is sampled at the level driven; any other has a free level (assumption 5). -/
def Obligations.TickCountsAndSamples : Prop :=
  (∀ s : State, s.rstLow = true → exec .refclkRisingEdge s = .next s)
    ∧ (∀ s : State, s.rstLow = false → s.divider.val < 31 →
        exec .refclkRisingEdge s = .next { s with divider := s.divider + 1 })
    ∧ ∀ (s : State) (board : Board), s.rstLow = false → s.divider = 31 → s.tickUnfinished = false →
      ∃ t, exec (.tick board) s = .next t
        ∧ t = { s.engaged with divider := 0, deadlines := t.deadlines, warnings := t.warnings, pins := t.pins,
                               samples := s.samples + 1 }
        ∧ (∀ (p : Port) (k : Prio), t.deadlines[p][k] =
            { timer := (s.deadlines[p][k].timer).map fun x => { x with remaining := x.remaining - 1 }
              flag := s.engaged.deadlines[p][k].flag })
        ∧ (∀ d : Dom, t.warnings[d] =
            { timer := (s.warnings[d].timer).map fun x => { x with remaining := x.remaining - 1 }
              flag := s.engaged.warnings[d].flag })
        ∧ ∀ g : Pin, t.pins[g] = { s.engaged.pins[g] with raw := t.pins[g].raw, input := t.pins[g].input }
            ∧ (s.pins[g].driver = .highZ → ∀ l ∈ board[g], t.pins[g].raw = l)
            ∧ (∀ l, s.pins[g].driver = .driving l → board[g] = none ∨ board[g] = some l → t.pins[g].raw = l)
            ∧ (∀ b f x, s.pins[g].binding = some b → b.dir = .input f → s.pins[g].input = some x →
                t.pins[g].input =
                  if t.pins[g].raw = x.accepted then some { x with count := 0 }
                  else if x.count < f then some { x with count := x.count + 1 }
                  else some { x with due := true })
            ∧ ((∀ b f, s.pins[g].binding = some b → b.dir ≠ .input f) → t.pins[g].input = s.pins[g].input)

/-- DEADLINE_TIMER_RUN_OUT, WARNING_TIMER_RUN_OUT and FILTER_ACCEPT, at a timer that stands at 0 and at a filter whose
acceptance is due: the flag is raised with slot and token, with the serial, with the serial of the present binding; the timer
passes to IDLE, and the raw level becomes the accepted level with the count at 0 (R85, R91, R117, R118). Whatever the flag
held before is replaced. -/
def Obligations.RunOutsAndAcceptancesRaiseFlags : Prop :=
  (∀ (s : State) (p : Port) (k : Prio) (x : DeadlineTimer), s.deadlines[p][k].timer = some x → x.remaining = 0 →
      exec (.deadlineTimerRunOut p k) s = .next { s with
        deadlines := s.deadlines.set p
          (s.deadlines[p].set k { timer := none, flag := some { slot := x.slot, token := x.token } }) })
    ∧ (∀ (s : State) (d : Dom) (x : WarningTimer), s.warnings[d].timer = some x → x.remaining = 0 →
      exec (.warningTimerRunOut d) s = .next { s with
        warnings := s.warnings.set d { timer := none, flag := some x.serial } })
    ∧ ∀ (s : State) (g : Pin) (b : Binding) (x : InputFilter), s.pins[g].binding = some b → s.pins[g].input = some x →
      x.due = true →
      exec (.filterAccept g) s = .next { s with
        pins := s.pins.set g
          { s.pins[g] with
            input := some { accepted := s.pins[g].raw, count := 0, due := false }
            flag := some b.serial } }

/-! ## Frames (Chapters 8 and 11) -/

/-- HELLO at a port that takes frames, by link state (R131). -/
def Obligations.HelloOutcomes : Prop :=
  ∀ (s : State) (p : Port) (body : List Byte), s.rstLow = false → s.ports[p].link ≠ .off →
    ∃ q : PortState, exec (.hello p body) s = .next { s with ports := s.ports.set p q }
      ∧ (body ≠ [] → q = { s.ports[p] with badCount := 0, reply := some (frameBytes 0x86#8 []) })
      ∧ (body = [] → s.ports[p].link = .closed →
          q = { s.ports[p] with
                badCount := 0, link := .opened, nextSeq := 0#4, notice := some .opened
                reply := some (frameBytes 0x87#8 [if s.ports[p].cls = .control then 0x01#8 else 0x00#8]) })
      ∧ (body = [] → s.ports[p].link = .opened ∨ s.ports[p].link = .faulted →
          q = { s.ports[p] with badCount := 0, reply := some (frameBytes 0x83#8 []) })
      ∧ ∀ c, body = [] → s.ports[p].link = .closing c →
          q = { s.ports[p] with badCount := 0, reply := some (frameBytes 0x84#8 []) }

/-- SUBMIT at a port that takes frames: link state, form, space; then the command joins the tail of the queue with its tag,
and ACCEPTED carries the free slots left (R132). -/
def Obligations.SubmitOutcomes : Prop :=
  ∀ (s : State) (p : Port) (body : List Byte), s.rstLow = false → s.ports[p].link ≠ .off →
    ∃ q : PortState, exec (.submit p body) s = .next { s with ports := s.ports.set p q }
      ∧ (∀ c, s.ports[p].link = .closing c →
          q = { s.ports[p] with badCount := 0, reply := some (frameBytes 0x84#8 []) })
      ∧ (s.ports[p].link = .closed ∨ s.ports[p].link = .faulted →
          q = { s.ports[p] with badCount := 0, reply := some (frameBytes 0x83#8 []) })
      ∧ (s.ports[p].link = .opened →
          (decodeSubmit body = none → q = { s.ports[p] with badCount := 0, reply := some (frameBytes 0x86#8 []) })
          ∧ ∀ tag c, decodeSubmit body = some (tag, c) →
              (4 ≤ s.ports[p].submit.length →
                q = { s.ports[p] with badCount := 0, reply := some (frameBytes 0x82#8 []) })
              ∧ (s.ports[p].submit.length < 4 →
                q = { s.ports[p] with
                      badCount := 0, submit := s.ports[p].submit ++ [{ tag := tag, command := c }]
                      reply := some (frameBytes 0x81#8 [BitVec.ofNat 8 (3 - s.ports[p].submit.length)]) }))

/-- PULL at a port that takes frames, by link state and, in OPEN, by Table 8-3; the bodies of ANSWER and EMPTY by Table
11-7 (R135, R163). `ack` is the acknowledgement a well-formed body carries. -/
def Obligations.PullOutcomes : Prop :=
  ∀ (s : State) (p : Port) (body : List Byte), s.rstLow = false → s.ports[p].link ≠ .off →
    ∃ q : PortState, exec (.pull p body) s = .next { s with ports := s.ports.set p q }
      ∧ (body ≠ [0xFF#8] → (∀ n : BitVec 4, body ≠ [n.setWidth 8]) →
          q = { s.ports[p] with badCount := 0, reply := some (frameBytes 0x86#8 []) })
      ∧ ∀ ack : Option (BitVec 4), body = [(ack.map fun n => n.setWidth 8).getD 0xFF#8] →
          (∀ c, s.ports[p].link = .closing c →
              q = { s.ports[p] with badCount := 0, reply := some (frameBytes 0x84#8 []) })
          ∧ (s.ports[p].link = .closed ∨ s.ports[p].link = .faulted →
              q = { s.ports[p] with badCount := 0, reply := some (frameBytes 0x83#8 []) })
          ∧ (s.ports[p].link = .opened →
              (s.ports[p].answers = [] →
                q = { s.ports[p] with
                      badCount := 0, reply := some (frameBytes 0x8A#8 [yesNo s.ports[p].eligible, 0#8]) })
              ∧ (∀ a tl, s.ports[p].answers = a :: tl → s.ports[p].outstanding = none →
                q = { s.ports[p] with
                      badCount := 0, outstanding := some s.ports[p].nextSeq, nextSeq := s.ports[p].nextSeq + 1
                      reply := some (frameBytes 0x89#8
                        ([s.ports[p].nextSeq.setWidth 8, yesNo s.ports[p].eligible, BitVec.ofNat 8 (tl.length + 1),
                          a.tag, opcodeByte a.code, statusByte a.status] ++ a.fields)) })
              ∧ (∀ a n, s.ports[p].answers = [a] → s.ports[p].outstanding = some n → ack = some n →
                q = { s.ports[p] with
                      badCount := 0, answers := [], outstanding := none
                      reply := some (frameBytes 0x8A#8 [yesNo s.ports[p].eligible, 0#8]) })
              ∧ (∀ a a' tl n, s.ports[p].answers = a :: a' :: tl → s.ports[p].outstanding = some n → ack = some n →
                q = { s.ports[p] with
                      badCount := 0, answers := a' :: tl
                      outstanding := some s.ports[p].nextSeq, nextSeq := s.ports[p].nextSeq + 1
                      reply := some (frameBytes 0x89#8
                        ([s.ports[p].nextSeq.setWidth 8, yesNo s.ports[p].eligible, BitVec.ofNat 8 (tl.length + 1),
                          a'.tag, opcodeByte a'.code, statusByte a'.status] ++ a'.fields)) })
              ∧ ∀ a tl n, s.ports[p].answers = a :: tl → s.ports[p].outstanding = some n → ack ≠ some n →
                q = { s.ports[p] with
                      badCount := 0
                      reply := some (frameBytes 0x89#8
                        ([n.setWidth 8, yesNo s.ports[p].eligible, BitVec.ofNat 8 (tl.length + 1),
                          a.tag, opcodeByte a.code, statusByte a.status] ++ a.fields)) })

/-- RESET_LINK at a port that takes frames, by link state; from OPEN the port leaves OPEN by R130 with cause RESET, and ATTN#
is released (R136). -/
def Obligations.ResetLinkOutcomes : Prop :=
  ∀ (s : State) (p : Port) (body : List Byte), s.rstLow = false → s.ports[p].link ≠ .off →
    ∃ t q, exec (.resetLink p body) s = .next t ∧ t = { s with ports := s.ports.set p q }
      ∧ (body ≠ [] → q = { s.ports[p] with badCount := 0, reply := some (frameBytes 0x86#8 []) })
      ∧ (body = [] → s.ports[p].link = .opened →
          q = { s.ports[p] with
                badCount := 0, link := .closing .reset, submit := [], answers := [], outstanding := none
                notice := none, teardown := true, reply := some (frameBytes 0x88#8 [0x04#8]) }
            ∧ t.attn p = false)
      ∧ (body = [] → s.ports[p].link = .closed →
          q = { s.ports[p] with badCount := 0, reply := some (frameBytes 0x88#8 [0x00#8]) })
      ∧ (body = [] → s.ports[p].link = .faulted →
          q = { s.ports[p] with
                badCount := 0, link := .closed, notice := some .closed, reply := some (frameBytes 0x88#8 [0x00#8]) })
      ∧ ∀ c, body = [] → s.ports[p].link = .closing c →
          q = { s.ports[p] with badCount := 0, reply := some (frameBytes 0x84#8 []) }

/-- PEEK at a port that takes frames: link state, closing cause, class, the bad-frame count before the frame, and the fill of
both queues; the count then becomes 0 and nothing else moves (R137). -/
def Obligations.PeekReportsThePort : Prop :=
  ∀ (s : State) (p : Port) (body : List Byte), s.rstLow = false → s.ports[p].link ≠ .off →
    ∃ bytes, exec (.peek p body) s
        = .next { s with ports := s.ports.set p { s.ports[p] with badCount := 0, reply := some bytes } }
      ∧ (body ≠ [] → bytes = frameBytes 0x86#8 [])
      ∧ (body = [] → ∃ link cause,
          bytes = frameBytes 0x8B#8
            [link, cause, if s.ports[p].cls = .control then 0x01#8 else 0x00#8, BitVec.ofNat 8 s.ports[p].badCount.val,
              BitVec.ofNat 8 s.ports[p].submit.length, BitVec.ofNat 8 s.ports[p].answers.length]
          ∧ (s.ports[p].link = .closed → link = 0x00#8 ∧ cause = 0x00#8)
          ∧ (s.ports[p].link = .opened → link = 0x01#8 ∧ cause = 0x00#8)
          ∧ (s.ports[p].link = .faulted → link = 0x02#8 ∧ cause = 0x00#8)
          ∧ (s.ports[p].link = .closing .reset → link = 0x04#8 ∧ cause = 0x01#8)
          ∧ (s.ports[p].link = .closing .fault → link = 0x04#8 ∧ cause = 0x02#8)
          ∧ (s.ports[p].link = .closing .evict → link = 0x04#8 ∧ cause = 0x03#8))

/-- BAD_FRAME at a port that takes frames: the count advances by 1 up to 4; the step from 3 to 4 is a fault, which closes an
OPEN link with cause FAULT by R130 and takes a CLOSED port to FAULTED with a notice of 2; a wrong CRC is answered BAD_FRAME,
a frame cut short or too long is not answered. A frame of unknown kind is answered MALFORMED and sets the count to 0
(R128, R129). -/
def Obligations.BadFramesAreCounted : Prop :=
  ∀ (s : State) (p : Port), s.rstLow = false → s.ports[p].link ≠ .off →
    (∀ form : BadForm, ∃ (q : PortState) (reply : Option (List Byte)),
      exec (.badFrame p form) s = .next { s with ports := s.ports.set p q }
        ∧ reply = (if form = .badCrc then some (frameBytes 0x85#8 []) else none)
        ∧ (s.ports[p].badCount.val < 3 → q = { s.ports[p] with badCount := s.ports[p].badCount + 1, reply := reply })
        ∧ (s.ports[p].badCount = 4 → q = { s.ports[p] with reply := reply })
        ∧ (s.ports[p].badCount = 3 → s.ports[p].link = .opened →
            q = { s.ports[p] with
                  badCount := 4, link := .closing .fault, submit := [], answers := [], outstanding := none
                  notice := none, teardown := true, reply := reply })
        ∧ (s.ports[p].badCount = 3 → s.ports[p].link = .closed →
            q = { s.ports[p] with badCount := 4, link := .faulted, notice := some .faulted, reply := reply })
        ∧ (s.ports[p].badCount = 3 → (∃ c, s.ports[p].link = .closing c) ∨ s.ports[p].link = .faulted →
            q = { s.ports[p] with badCount := 4, reply := reply }))
    ∧ ∀ (kind : Byte) (body : List Byte),
      exec (.unknownKindFrame p kind body) s
        = .next { s with ports := s.ports.set p { s.ports[p] with badCount := 0, reply := some (frameBytes 0x86#8 []) } }

/-- A port in OFF, and every port while RST# is low, takes no frame: nothing changes (R125, R126). -/
def Obligations.SilentPortsTakeNoFrame : Prop :=
  ∀ (s : State) (p : Port), s.rstLow = true ∨ s.ports[p].link = .off →
    ∀ c : Instr,
      ((∃ body, c = .hello p body ∨ c = .submit p body ∨ c = .pull p body ∨ c = .resetLink p body ∨ c = .peek p body)
        ∨ (∃ form, c = .badFrame p form) ∨ ∃ kind body, c = .unknownKindFrame p kind body) →
      exec c s = .next s

/-! ## Deliveries (Chapter 8) -/

/-- ANSWER_ARRIVAL: the answer joins the tail of an OPEN port's queue, not outstanding, and ATTN# is then asserted; at any
other port it is discarded (R134). -/
def Obligations.AnswersArrive : Prop :=
  ∀ (s : State) (p : Port) (a : Answer), s.ports[p].inAnswer = some a →
    ∃ t q, exec (.answerArrival p) s = .next t ∧ t = { s with ports := s.ports.set p q }
      ∧ (s.ports[p].link = .opened →
          q = { s.ports[p] with answers := s.ports[p].answers ++ [a], inAnswer := none } ∧ t.attn p = true)
      ∧ (s.ports[p].link ≠ .opened → q = { s.ports[p] with inAnswer := none })

/-- ELIGIBLE_INDICATION: in every link state it replaces the indication held. ATTN# is asserted exactly while the port is
OPEN and its answer queue is not empty or the indication held is yes (R141). -/
def Obligations.IndicationsArriveAndDriveAttn : Prop :=
  (∀ (s : State) (p : Port) (yes : Bool), s.ports[p].inIndication = some yes →
      exec (.eligibleIndication p) s
        = .next { s with ports := s.ports.set p { s.ports[p] with eligible := yes, inIndication := none } })
    ∧ ∀ (s : State) (p : Port),
      s.attn p = true ↔ s.ports[p].link = .opened ∧ (s.ports[p].answers ≠ [] ∨ s.ports[p].eligible = true)

/-- EVICT_REQUEST: an OPEN port leaves OPEN by R130 with cause EVICT; in any other link state the request is discarded
(R139). -/
def Obligations.EvictRequestsArrive : Prop :=
  ∀ (s : State) (p : Port), s.ports[p].inEvict = true →
    ∃ q, exec (.evictRequest p) s = .next { s with ports := s.ports.set p q }
      ∧ (s.ports[p].link = .opened →
          q = { s.ports[p] with
                link := .closing .evict, submit := [], answers := [], outstanding := none, notice := none, teardown := true
                inEvict := false })
      ∧ (s.ports[p].link ≠ .opened → q = { s.ports[p] with inEvict := false })

/-- TEARDOWN_COMPLETION: a CLOSING port passes to FAULTED for cause FAULT and to CLOSED for RESET and EVICT; nothing else of
it moves (R140). -/
def Obligations.CompletionsArrive : Prop :=
  ∀ (s : State) (p : Port) (c : Cause), s.ports[p].inCompletion = true → s.ports[p].link = .closing c →
    exec (.teardownCompletion p) s
      = .next { s with
          ports := s.ports.set p
            { s.ports[p] with link := if c = .fault then .faulted else .closed, inCompletion := false } }

/-! ## The arbiter (Chapter 9) -/

/-- Table 9-1 and the round (R143 to R145). The engine is free when RST# is high, no request is chosen, nothing of a tick is
left (assumption 4), and no answer, indication or evict request is on its way (assumption 6). Free, it takes a raised
teardown of the lowest port; else a notice; else a deadline expiry, lowest port and then lowest priority number; else a
warning expiry; else a pin update; else the head command of the ready port first met in the round from the port after the
last-served one. Taking it clears its flag or takes the command out of the queue. A request chosen before a tick is `taking`,
and stays the choice whatever is raised behind it (`engaged`, assumption 19). A request that is not the choice waits: the rows
that name it do nothing (assumption 3). -/
def Obligations.ArbiterChoosesInOrder : Prop :=
  ∀ s : State,
    (s.engineFree = true ↔
      s.rstLow = false ∧ s.taking = none
        ∧ (∀ (p : Port) (k : Prio), ∀ x ∈ s.deadlines[p][k].timer, x.remaining ≠ 0)
        ∧ (∀ d : Dom, ∀ x ∈ s.warnings[d].timer, x.remaining ≠ 0)
        ∧ (∀ g : Pin, ∀ f ∈ s.pins[g].input, f.due = false)
        ∧ ∀ p : Port, s.ports[p].inAnswer = none ∧ s.ports[p].inIndication = none ∧ s.ports[p].inEvict = false)
    ∧ (s.taking = none → s.engineFree = false → s.choice = none)
    ∧ (∀ r : Taking, s.taking = some r →
        s.choice = if ({ s with taking := none } : State).engineFree = true then some r else none)
    ∧ (s.engineFree = true →
        (∀ p : Port, s.choice = some (.teardown p) ↔
          s.ports[p].teardown = true ∧ ∀ q : Port, q < p → s.ports[q].teardown = false)
        ∧ (∀ (p : Port) (v : NoticeValue), s.choice = some (.notice p v) ↔
          (∀ q : Port, s.ports[q].teardown = false)
            ∧ s.ports[p].notice = some v ∧ ∀ q : Port, q < p → s.ports[q].notice = none)
        ∧ (∀ (p : Port) (k : Prio) (f : DeadlineFlag), s.choice = some (.deadline p k f) ↔
          (∀ q : Port, s.ports[q].teardown = false ∧ s.ports[q].notice = none)
            ∧ s.deadlines[p][k].flag = some f
            ∧ ∀ (q : Port) (j : Prio), q < p ∨ (q = p ∧ j < k) → s.deadlines[q][j].flag = none)
        ∧ (∀ (d : Dom) (serial : Byte), s.choice = some (.warning d serial) ↔
          (∀ q : Port, s.ports[q].teardown = false ∧ s.ports[q].notice = none ∧ ∀ j : Prio, s.deadlines[q][j].flag = none)
            ∧ s.warnings[d].flag = some serial ∧ ∀ e : Dom, e < d → s.warnings[e].flag = none)
        ∧ (∀ (g : Pin) (serial : Byte), s.choice = some (.pinUpdate g serial) ↔
          (∀ q : Port, s.ports[q].teardown = false ∧ s.ports[q].notice = none ∧ ∀ j : Prio, s.deadlines[q][j].flag = none)
            ∧ (∀ d : Dom, s.warnings[d].flag = none)
            ∧ s.pins[g].flag = some serial ∧ ∀ h : Pin, h < g → s.pins[h].flag = none)
        ∧ ∀ (p : Port) (c : Queued), s.choice = some (.command p c) ↔
          (∀ q : Port, s.ports[q].teardown = false ∧ s.ports[q].notice = none ∧ ∀ j : Prio, s.deadlines[q][j].flag = none)
            ∧ (∀ d : Dom, s.warnings[d].flag = none) ∧ (∀ g : Pin, s.pins[g].flag = none)
            ∧ (s.ports[p].link = .opened ∧ s.ports[p].submit.head? = some c ∧ s.ports[p].answers.length < 8)
            ∧ ∀ q : Port, s.ports[q].link = .opened → s.ports[q].submit ≠ [] → s.ports[q].answers.length < 8 →
                (p - s.lastServed - 1).val ≤ (q - s.lastServed - 1).val)
    ∧ (∀ r : Taking, s.taking = none →
        s.taken r =
          match r with
          | .teardown p => { s with ports := s.ports.set p { s.ports[p] with teardown := false } }
          | .notice p _ => { s with ports := s.ports.set p { s.ports[p] with notice := none } }
          | .deadline p k _ =>
            { s with deadlines := s.deadlines.set p (s.deadlines[p].set k { s.deadlines[p][k] with flag := none }) }
          | .warning d _ => { s with warnings := s.warnings.set d { s.warnings[d] with flag := none } }
          | .pinUpdate g _ => { s with pins := s.pins.set g { s.pins[g] with flag := none } }
          | .command p _ => { s with ports := s.ports.set p { s.ports[p] with submit := s.ports[p].submit.tail } })
    ∧ (∀ r : Taking, s.taking ≠ none → s.taken r = { s with taking := none })
    ∧ (∀ r : Taking, s.taking = none → s.choice = some r → s.engaged = { s.taken r with taking := some r })
    ∧ (s.taking ≠ none ∨ s.choice = none → s.engaged = s)
    ∧ (∀ p : Port, s.choice ≠ some (.teardown p) → exec (.teardownRequest p) s = .next s)
    ∧ (∀ p : Port, (∀ v, s.choice ≠ some (.notice p v)) → exec (.linkNotice p) s = .next s)
    ∧ (∀ (p : Port) (k : Prio), (∀ f, s.choice ≠ some (.deadline p k f)) → exec (.deadlineExpiryRequest p k) s = .next s)
    ∧ (∀ d : Dom, (∀ serial, s.choice ≠ some (.warning d serial)) → exec (.warningExpiryRequest d) s = .next s)
    ∧ (∀ g : Pin, (∀ serial, s.choice ≠ some (.pinUpdate g serial)) → exec (.pinUpdateRequest g) s = .next s)
    ∧ ∀ (p : Port) (found : Option Level) (o : Opcode),
        (∀ c, s.choice ≠ some (.command p c)) → exec (rowOf p found o) s = .next s

/-! ## Internal requests (Chapters 5, 6, 7, 8, 10) -/

/-- LINK_NOTICE, as the engine takes the notice of p with value v: the flag is clear and the port's LINK record takes the value
the notice carried, a change if it differs (R138, R9). -/
def Obligations.LinkNoticesSetTheLinkRecord : Prop :=
  ∀ (s : State) (p : Port) (v : NoticeValue), s.choice = some (.notice p v) →
    ∃ t, exec (.linkNotice p) s = .next t
      ∧ GivenValue (s.taken (.notice p v)) t (linkSlot p)
          (match v with | .closed => 0#8 | .opened => 1#8 | .faulted => 2#8)

/-- DEADLINE_EXPIRY_REQUEST, as the engine takes the request f of (p, k): the flag is clear. If p's service list holds an entry on the slot with the token and not
OVERDUE, it is marked, keeps its place, and p's OVERDUE record advances by 1; otherwise nothing changes (R87). -/
def Obligations.DeadlineExpiriesMarkTheEntry : Prop :=
  ∀ (s : State) (p : Port) (k : Prio) (f : DeadlineFlag), s.choice = some (.deadline p k f) →
    ServiceListsOrdered s →
    ∃ t s0, exec (.deadlineExpiryRequest p k) s = .next t ∧ s0 = s.taken (.deadline p k f)
      ∧ ((∀ e ∈ s.services[p].list, e.slot = f.slot → e.token = f.token → e.overdue = true) → t = s0)
      ∧ ∀ older e newer, s.services[p].list = older ++ e :: newer → e.slot = f.slot → e.token = f.token →
          e.overdue = false →
          GivenValue
            { s0 with
              services := s.services.set p
                { s.services[p] with list := older ++ { e with overdue := true } :: newer } }
            t (overdueSlot p) (s.valueAt (overdueSlot p) + 1#8)

/-- WARNING_EXPIRY_REQUEST, as the engine takes the request of d with a serial: the flag is clear. If d is in WARNING with the serial of the request, the warning ends by the
stages of R101; otherwise nothing changes (R102). -/
def Obligations.WarningExpiriesEndTheWarning : Prop :=
  ∀ (s : State) (d : Dom) (serial : Byte), s.choice = some (.warning d serial) →
    ∃ t s0, exec (.warningExpiryRequest d) s = .next t ∧ s0 = s.taken (.warning d serial)
      ∧ (s.domains[d].state ≠ .warning ∨ s.domains[d].serial ≠ serial → t = s0)
      ∧ (s.domains[d].state = .warning → s.domains[d].serial = serial → ∃ m, WarningEnds s0 m d ∧ Ends s0 m t [])

/-- PIN_UPDATE_REQUEST, as the engine takes the request of g with a serial: the flag is clear. A request of a binding that no longer stands, or for a record of a HELD domain,
is discarded; else the record takes 1 when the pin's accepted level is the active level, and 0 when it is not (R119). -/
def Obligations.PinUpdatesApplyTheLevel : Prop :=
  ∀ (s : State) (g : Pin) (serial : Byte), s.choice = some (.pinUpdate g serial) →
    ∃ t s0, exec (.pinUpdateRequest g) s = .next t ∧ s0 = s.taken (.pinUpdate g serial)
      ∧ (s.pins[g].binding = none → t = s0)
      ∧ ∀ b, s.pins[g].binding = some b →
          (b.dir = .output ∨ b.serial ≠ serial → t = s0)
          ∧ ∀ r x, s.slots[b.slot].record = some r → s.pins[g].input = some x → b.dir ≠ .output → b.serial = serial →
              (s.domainHeld r.domain = true → t = s0)
              ∧ (s.domainHeld r.domain = false →
                  GivenValue s0 t b.slot (if x.accepted = b.active then 1#8 else 0#8))

/-- TEARDOWN_REQUEST, in any state with the invariants named, completes and leaves just what the seven stages say (R151 to
R159). The service list is empty and the timers of its entries with a deadline class are IDLE, flags left; threshold,
pointers and token counter are 8, 127 and 0, and the other ports' service stands. p leaves every awaited set, and the warnings
it alone was awaited in end. Slot by slot (`recordTornDown`): FREE slots stand, generations too; of p's subscriptions those
with KEEP on LIVE records stand, the HELD ones evaluated; the LIVE unlocked records of p are orphaned: RETAIN, and DEFAULT on
an EVENT record, move the owner alone; DEFAULT returns a LEVEL record to its default; RETIRE leaves it FREE, or DRAINING and
p's own while another port has it in service; a record DRAINING before loses p's subscription and is FREE with the last; a
locked or DRAINING record stays p's. Every value that differs is one change, evaluated at every subscription. Pin by pin
(`pinTornDown`): the pin of a retired record returns to high impedance, the OUTPUT pin of a changed one follows it, every other
binding, filter and driver stands. The OVERDUE record takes 0, the LINK record 2 for cause FAULT, else 0. The completion and p's
indication are on their way, and an indication to every other port whose pending set differs; to a further port only where it
subscribed to a record that a warning's end returned to its default and RETIRE then retired. -/
def Obligations.TeardownSettlesThePort : Prop :=
  ∀ (s : State) (p : Port), s.choice = some (.teardown p) →
    SystemRecordsStand s → ServiceListsOrdered s → BindingsStand s → DrainingInService s → IdMapExact s →
    ∃ t m, exec (.teardownRequest p) s = .next t ∧ m = s.taken (.teardown p)
      ∧ t = { m with deadlines := t.deadlines, warnings := t.warnings, slots := t.slots, idMap := t.idMap,
                     services := t.services, domains := t.domains, pins := t.pins, ports := t.ports }
      ∧ t.services = s.services.set p { list := [], threshold := 8, rotation := Vector.replicate 8 127, tokenCounter := 0#8 }
      ∧ (∀ (q : Port) (k : Prio), t.deadlines[q][k] =
          if q = p ∧ (s.services[p].list.any fun e => (s.subAt e.slot p).any fun u => u.cls ≠ 0 ∧ u.priority = k) = true then
            { s.deadlines[q][k] with timer := none }
          else s.deadlines[q][k])
      ∧ (∀ d : Dom, (t.domains[d], t.warnings[d]) = s.domainTornDown p d)
      ∧ (∀ i : SlotNo, t.slots[i] =
          { gen := s.slots[i].gen
            record := match s.slots[i].record with | none => none | some r => s.recordTornDown p i r })
      ∧ IdMapExact t
      ∧ (∀ g : Pin, t.pins[g] = s.pinTornDown p s.pins[g])
      ∧ (∀ q : Port, t.ports[q] =
          if q = p then { m.ports[q] with inCompletion := true, inIndication := t.ports[q].inIndication }
          else { s.ports[q] with inIndication := t.ports[q].inIndication })
      ∧ IndicationsSent s t [p]
      ∧ ∀ q : Port, t.ports[q].inIndication.isSome = true →
          q = p ∨ PendingSetDiffers s t q
            ∨ ∃ (i : SlotNo) (r : Record), s.slots[i].record = some r ∧ r.retiredBy p = true
                ∧ s.valueTornDown p i r ≠ r.value ∧ (r.subs[q]).isSome = true

/-! ## Checks of commands (Chapters 1 and 9) -/

/-- R148, step 1, and R6: a MEMBER port is answered DENIED for a CONTROL command however its parameters stand; then a handle
whose slot is above 127 is answered BAD_PARAM, one whose slot is FREE or has another generation STALE, and one that names a
DRAINING record DRAINING, READ and RELEASE apart. -/
def Obligations.ClassAndHandleChecksComeFirst : Prop :=
  ∀ (s : State) (p : Port) (tag : Byte) (c : Command) (rest : List Queued) (found : Option Level), Takes s p tag c rest →
    (s.ports[p].cls = .member → c.opcode ∈ controlCommands →
      exec (rowOf p found c.opcode) s = s.bare p tag c.opcode rest .denied)
    ∧ (s.ports[p].cls = .control ∨ c.opcode ∉ controlCommands → ∀ h passes, handleOf c = some (h, passes) →
        (128 ≤ h.slot.toNat → exec (rowOf p found c.opcode) s = s.bare p tag c.opcode rest .badParam)
        ∧ (∀ i : SlotNo, h.slot.toNat = i.val → s.slots[i].record = none ∨ s.slots[i].gen ≠ h.gen →
            exec (rowOf p found c.opcode) s = s.bare p tag c.opcode rest .stale)
        ∧ ∀ i r, Names s h i r → r.state = .draining → passes = false →
            exec (rowOf p found c.opcode) s = s.bare p tag c.opcode rest .draining)

/-- R148: a command answered with a refusal, or with UNCHANGED, NONE, BUSY or ALREADY, has changed nothing but its own queue
and the last-served port: no record, no map, no subscription, no timer, no pin, no delivery to any other port. -/
def Obligations.RefusedCommandsChangeNothing : Prop :=
  ∀ (s t : State) (p : Port) (tag : Byte) (c : Command) (rest : List Queued) (found : Option Level) (a : Answer),
    Takes s p tag c rest → exec (rowOf p found c.opcode) s = .next t → t.ports[p].inAnswer = some a →
    a.status ∈ unchangingStatuses → t = s.answered p rest a ∧ a.tag = tag ∧ a.code = c.opcode

/-! ## The directory (Chapter 1) -/

/-- DECLARE: parameters, id, domain, space, in that order (R12); then the FREE user slot with the lowest number takes the
record with the fields of R13, its generation advanced by R3, and the id enters the Id Map. The answer carries the handle.
A DECLARE alters nothing else. -/
def Obligations.DeclareOutcomes : Prop :=
  ∀ (s : State) (p : Port) (tag : Byte) (id : Half) (kind init dflt dom policy : Byte) (rest : List Queued),
    Takes s p tag (.declare id kind init dflt dom policy) rest → IdMapExact s →
    (0xFF00 ≤ id.toNat ∨ 2 ≤ kind.toNat ∨ (8 ≤ dom.toNat ∧ dom ≠ 0xFF#8) ∨ 3 ≤ policy.toNat →
      exec (.declare p) s = s.bare p tag .declare rest .badParam)
    ∧ ∀ (k : Kind) (d : Option Dom) (o : Policy), id.toNat < 0xFF00 → kind = kindByte k → dom = domainByte d →
        policy = policyByte o →
        ((∃ j : SlotNo, s.idAt j = some id) → exec (.declare p) s = s.bare p tag .declare rest .idInUse)
        ∧ ((∀ j : SlotNo, s.idAt j ≠ some id) →
            (s.domainHeld d = true → exec (.declare p) s = s.bare p tag .declare rest .domainHeld)
            ∧ (s.domainHeld d = false →
                ((∀ i : SlotNo, 20 ≤ i.val → s.slots[i].record ≠ none) →
                  exec (.declare p) s = s.bare p tag .declare rest .tableFull)
                ∧ ∀ i : SlotNo, 20 ≤ i.val → s.slots[i].record = none →
                    (∀ j : SlotNo, 20 ≤ j.val → j < i → s.slots[j].record ≠ none) →
                    ∃ t gen, exec (.declare p) s = .next t
                      ∧ gen = (if s.slots[i].gen = 255#8 then 1#8 else s.slots[i].gen + 1#8)
                      ∧ t = { s.answered p rest
                                { tag := tag, code := .declare, status := .ok, fields := [BitVec.ofNat 8 i.val, gen] } with
                              slots := s.slots.set i
                                { gen := gen
                                  record := some
                                    { state := .live, id := id, kind := k
                                      value := if k = .level then init else 0#8
                                      version := 0#16
                                      dflt := if k = .level then some dflt else none
                                      domain := d, owner := .port p, policy := some o, locked := false
                                      subs := Vector.replicate 6 none } }
                              idMap := t.idMap }
                      ∧ IdMapExact t))

/-- RETIRE: system record, lock, authority, in that order (R15); then the stages of R16 and R17. With no subscription in
service the slot passes to FREE, keeps its generation, its id leaves the Id Map, and the answer is OK; else the record is
DRAINING with those subscriptions, none pending, and the answer is RETIRING. A binding ends; an INPUT one leaves the owner
NONE. Value, version and the service lists stand. -/
def Obligations.RetireOutcomes : Prop :=
  ∀ (s : State) (p : Port) (tag : Byte) (h : Handle) (rest : List Queued) (i : SlotNo) (r : Record),
    Takes s p tag (.retire h) rest → Names s h i r → r.state = .live →
    (i.val < 20 → exec (.retire p) s = s.bare p tag .retire rest .denied)
    ∧ (20 ≤ i.val → r.locked = true → exec (.retire p) s = s.bare p tag .retire rest .locked)
    ∧ (20 ≤ i.val → r.locked = false → r.owner ≠ .port p → s.ports[p].cls = .member →
        exec (.retire p) s = s.bare p tag .retire rest .notOwner)
    ∧ (20 ≤ i.val → r.locked = false → r.owner = .port p ∨ s.ports[p].cls = .control → BindingsStand s →
        ∃ t a, exec (.retire p) s = .next t ∧ a.tag = tag ∧ a.code = .retire ∧ a.fields = []
          ∧ t = { s.answered p rest a with slots := t.slots, idMap := t.idMap, pins := t.pins, ports := t.ports }
          ∧ OtherSlotsStand s t [i]
          ∧ (∀ g : Pin, t.pins[g] =
              if (s.pins[g].binding.any fun b => b.slot = i) = true then
                { s.pins[g] with binding := none, input := none, driver := .highZ }
              else s.pins[g])
          ∧ ((∀ q : Port, (r.subs[q]).isSome = true → s.inService q i = false) →
              a.status = .ok ∧ t.slots[i] = { gen := s.slots[i].gen, record := none }
                ∧ t.idMap = s.idMap.filter fun e => e.1 ≠ r.id)
          ∧ ((∃ q : Port, (r.subs[q]).isSome = true ∧ s.inService q i = true) →
              a.status = .retiring ∧ t.idMap = s.idMap
                ∧ t.slots[i] =
                  { gen := s.slots[i].gen
                    record := some
                      { r with
                        state := .draining
                        owner := if ∃ g : Pin, r.owner = .pin g then .nobody else r.owner
                        subs := Vector.ofFn fun q : Port =>
                          if s.inService q i = true then (r.subs[q]).map fun u => { u with mark := none } else none } })
          ∧ PortsStand (s.answered p rest a) t ∧ IndicationsExact s t [])

/-- CLAIM: system record, lock, owner, in that order; a record owned by NONE passes to the claiming port, and nothing else of
it or of the part moves (R20). -/
def Obligations.ClaimOutcomes : Prop :=
  ∀ (s : State) (p : Port) (tag : Byte) (h : Handle) (rest : List Queued) (i : SlotNo) (r : Record),
    Takes s p tag (.claim h) rest → Names s h i r → r.state = .live →
    (i.val < 20 → exec (.claim p) s = s.bare p tag .claim rest .denied)
    ∧ (20 ≤ i.val → r.locked = true → exec (.claim p) s = s.bare p tag .claim rest .locked)
    ∧ (20 ≤ i.val → r.locked = false →
        (r.owner = .nobody → exec (.claim p) s = .next
          { s.answered p rest { tag := tag, code := .claim, status := .ok, fields := [] } with
            slots := s.slots.set i { s.slots[i] with record := some { r with owner := .port p } } })
        ∧ (r.owner = .port p → exec (.claim p) s = s.bare p tag .claim rest .ok)
        ∧ (r.owner ≠ .nobody → r.owner ≠ .port p → exec (.claim p) s = s.bare p tag .claim rest .owned))

/-- LOCK from a CONTROL port: system record, INPUT binding, in that order; then the record is locked, or already was, and
nothing else of it or of the part moves (R22). -/
def Obligations.LockOutcomes : Prop :=
  ∀ (s : State) (p : Port) (tag : Byte) (h : Handle) (rest : List Queued) (i : SlotNo) (r : Record),
    Takes s p tag (.lock h) rest → Names s h i r → r.state = .live → s.ports[p].cls = .control → BindingsStand s →
    (i.val < 20 → exec (.lock p) s = s.bare p tag .lock rest .denied)
    ∧ (20 ≤ i.val → (∃ g : Pin, InputBoundTo s.pins[g] i) → exec (.lock p) s = s.bare p tag .lock rest .bound)
    ∧ (20 ≤ i.val → (∀ g : Pin, ¬ InputBoundTo s.pins[g] i) → exec (.lock p) s = .next
        { s.answered p rest { tag := tag, code := .lock, status := .ok, fields := [] } with
          slots := s.slots.set i { s.slots[i] with record := some { r with locked := true } } })

/-- LOOKUP, SERVICE_LIST and PIN_QUERY report and change nothing (R21, R79, R122): the fields of Tables 1-9 and 7-4 and of
R79, laid out by Table 11-8, FFH where a field is absent. -/
def Obligations.InspectionsReport : Prop :=
  (∀ (s : State) (p : Port) (tag : Byte) (id : Half) (rest : List Queued), Takes s p tag (.lookup id) rest →
      IdMapExact s →
      ((∀ i : SlotNo, s.idAt i ≠ some id) → exec (.lookup p) s = s.bare p tag .lookup rest .notFound)
      ∧ ∀ (i : SlotNo) (r : Record), s.slots[i].record = some r → r.id = id →
          exec (.lookup p) s = .next (s.answered p rest
            { tag := tag, code := .lookup, status := .ok
              fields :=
                [BitVec.ofNat 8 i.val, s.slots[i].gen, kindByte r.kind, recStateByte r.state, ownerByte r.owner,
                  domainByte r.domain, yesNo r.locked, r.value, hiByte r.version, loByte r.version,
                  (match s.boundPin i with | some g => BitVec.ofNat 8 g.val | none => 0xFF#8),
                  BitVec.ofNat 8 ((List.finRange 6).countP fun q => (r.subs[q]).isSome)] }))
    ∧ (∀ (s : State) (p : Port) (tag : Byte) (rest : List Queued), Takes s p tag .serviceList rest →
      ServiceListsOrdered s →
      exec (.serviceList p) s = .next (s.answered p rest
        { tag := tag, code := .serviceList, status := .ok
          fields :=
            BitVec.ofNat 8 s.services[p].threshold.val
              :: BitVec.ofNat 8 ((List.finRange 128).countP fun i => isPending (s.subAt i p))
              :: s.services[p].list.flatMap fun e =>
                [BitVec.ofNat 8 e.slot.val, s.slots[e.slot].gen,
                  BitVec.ofNat 8 (s.priorityAt p e.slot) + (if e.overdue = true then 0x80#8 else 0#8), e.token] }))
    ∧ ∀ (s : State) (p : Port) (tag pin : Byte) (rest : List Queued), Takes s p tag (.pinQuery pin) rest →
      (16 ≤ pin.toNat → exec (.pinQuery p) s = s.bare p tag .pinQuery rest .badParam)
      ∧ ∀ g : Pin, pin.toNat = g.val → WireAgrees s.pins[g] →
          ∃ fields, exec (.pinQuery p) s = .next (s.answered p rest
              { tag := tag, code := .pinQuery, status := .ok, fields := fields })
            ∧ (s.pins[g].binding = none →
                fields = [0#8, 0xFF#8, 0xFF#8, 0xFF#8, 0xFF#8, 0xFF#8, 0xFF#8, levelByte s.pins[g].raw, 0xFF#8, 0xFF#8])
            ∧ (∀ b f x, s.pins[g].binding = some b → b.dir = .input f → s.pins[g].input = some x →
                fields = [1#8, BitVec.ofNat 8 b.slot.val, s.slots[b.slot].gen, 0#8, levelByte b.active, b.serial,
                  BitVec.ofNat 8 f.val, levelByte s.pins[g].raw, levelByte x.accepted, 0xFF#8])
            ∧ ∀ b l, s.pins[g].binding = some b → b.dir = .output → s.pins[g].driver = .driving l →
                fields = [1#8, BitVec.ofNat 8 b.slot.val, s.slots[b.slot].gen, 1#8, levelByte b.active, b.serial,
                  0xFF#8, levelByte s.pins[g].raw, 0xFF#8, levelByte l]

/-! ## Values (Chapter 2) -/

/-- SET and SET_IF on a LIVE record: system record, kind, lock, owner, domain, and for SET_IF the version, in that order
(R31 to R33); a value that differs is one change, answered OK with the new version; the value held is answered UNCHANGED with
the present version (R34); a version not expected is answered CONFLICT with the present value and version (R35). -/
def Obligations.LevelWriteOutcomes : Prop :=
  ∀ (s : State) (p : Port) (tag : Byte) (h : Handle) (v : Byte) (rest : List Queued) (i : SlotNo) (r : Record)
    (c : Command) (o : Opcode) (expected : Option Half),
    (c = .set h v ∧ o = .set ∧ expected = none ∨ ∃ e, c = .setIf h e v ∧ o = .setIf ∧ expected = some e) →
    Takes s p tag c rest → Names s h i r → r.state = .live →
    (i.val < 20 → exec (rowOf p none o) s = s.bare p tag o rest .denied)
    ∧ (20 ≤ i.val →
        (r.kind = .event → exec (rowOf p none o) s = s.bare p tag o rest .badParam)
        ∧ (r.kind = .level → r.locked = true → exec (rowOf p none o) s = s.bare p tag o rest .locked)
        ∧ (r.kind = .level → r.locked = false → r.owner ≠ .port p →
            exec (rowOf p none o) s = s.bare p tag o rest .notOwner)
        ∧ (r.kind = .level → r.locked = false → r.owner = .port p →
            (s.domainHeld r.domain = true → exec (rowOf p none o) s = s.bare p tag o rest .domainHeld)
            ∧ (s.domainHeld r.domain = false →
                (expected.any (fun e => r.version ≠ e) = true →
                  exec (rowOf p none o) s = .next (s.answered p rest
                    { tag := tag, code := o, status := .conflict, fields := [r.value, hiByte r.version, loByte r.version] }))
                ∧ (expected.all (fun e => r.version = e) = true →
                    (r.value = v → exec (rowOf p none o) s = .next (s.answered p rest
                      { tag := tag, code := o, status := .unchanged, fields := [hiByte r.version, loByte r.version] }))
                    ∧ (r.value ≠ v → ∃ t, exec (rowOf p none o) s = .next t
                        ∧ OneChange (s.answered p rest
                            { tag := tag, code := o, status := .ok
                              fields := [hiByte (r.version + 1), loByte (r.version + 1)] }) t i v 0)))))

/-- RAISE on a LIVE record: system record, amount, kind, lock, owner, domain, in that order (R31 to R33); then the amount is
added modulo 256 as one change, with the amount handed to the subscriptions, and the answer carries the new value and
version (R36). -/
def Obligations.RaiseOutcomes : Prop :=
  ∀ (s : State) (p : Port) (tag : Byte) (h : Handle) (n : Byte) (rest : List Queued) (i : SlotNo) (r : Record),
    Takes s p tag (.raise h n) rest → Names s h i r → r.state = .live →
    (i.val < 20 → exec (.raise p) s = s.bare p tag .raise rest .denied)
    ∧ (20 ≤ i.val →
        (n.toNat = 0 ∨ 16 ≤ n.toNat → exec (.raise p) s = s.bare p tag .raise rest .badParam)
        ∧ (1 ≤ n.toNat → n.toNat ≤ 15 →
            (r.kind = .level → exec (.raise p) s = s.bare p tag .raise rest .badParam)
            ∧ (r.kind = .event → r.locked = true → exec (.raise p) s = s.bare p tag .raise rest .locked)
            ∧ (r.kind = .event → r.locked = false → r.owner ≠ .port p →
                exec (.raise p) s = s.bare p tag .raise rest .notOwner)
            ∧ (r.kind = .event → r.locked = false → r.owner = .port p →
                (s.domainHeld r.domain = true → exec (.raise p) s = s.bare p tag .raise rest .domainHeld)
                ∧ (s.domainHeld r.domain = false → ∃ t, exec (.raise p) s = .next t
                    ∧ OneChange (s.answered p rest
                        { tag := tag, code := .raise, status := .ok
                          fields := [r.value + n, hiByte (r.version + 1), loByte (r.version + 1)] })
                        t i (r.value + n) n.toNat))))

/-- READ of a LIVE or DRAINING record answers its value, version and owner (R37); READ_GROUP of 1 to 8 handles answers one
item per handle in their order, each with its own status, and is BAD_PARAM as a whole for any other number (R38, R39).
Nothing changes. -/
def Obligations.ReadsReport : Prop :=
  (∀ (s : State) (p : Port) (tag : Byte) (h : Handle) (rest : List Queued) (i : SlotNo) (r : Record),
      Takes s p tag (.read h) rest → Names s h i r →
      exec (.read p) s = .next (s.answered p rest
        { tag := tag, code := .read, status := .ok
          fields := [r.value, hiByte r.version, loByte r.version, ownerByte r.owner] }))
    ∧ ∀ (s : State) (p : Port) (tag : Byte) (hs : List Handle) (rest : List Queued), Takes s p tag (.readGroup hs) rest →
      (hs.length = 0 ∨ 9 ≤ hs.length → exec (.readGroup p) s = s.bare p tag .readGroup rest .badParam)
      ∧ (1 ≤ hs.length → hs.length ≤ 8 → ∀ items : List (List Byte),
          List.Forall₂ (fun h item =>
            (128 ≤ h.slot.toNat ∧ item = [0x20#8, 0#8, 0#8, 0#8])
              ∨ (∃ i : SlotNo, h.slot.toNat = i.val ∧ (s.slots[i].record = none ∨ s.slots[i].gen ≠ h.gen)
                  ∧ item = [0x22#8, 0#8, 0#8, 0#8])
              ∨ ∃ i r, Names s h i r ∧ item = [0x00#8, r.value, hiByte r.version, loByte r.version]) hs items →
          exec (.readGroup p) s = .next (s.answered p rest
            { tag := tag, code := .readGroup, status := .ok, fields := items.flatten }))

/-! ## Subscriptions (Chapter 3) -/

/-- What one change, from old to new with a raise amount n of 1 to 15 on an EVENT record, does to one subscription. LATCHED
on a LEVEL record: a condition not met leaves it; one met makes it pending with count 1, or advances the count up to 15, and
the snap takes the new value (R53, R54). EACH: n triggers (R55). HELD: in service no effect; else the mark follows the
predicate, with count 1 (R56). Its settings stand. -/
def Obligations.ChangesAreEvaluated : Prop :=
  ∀ (u : Sub) (serving : Bool) (old new : Byte) (n : Nat),
    u.afterChange serving old new n = { u with mark := (u.afterChange serving old new n).mark }
    ∧ (u.mode = .latched → u.cond ≠ .each → ∀ met : Prop,
        (met ↔ match u.cond with
          | .any => True
          | .rise => old = 0#8 ∧ new ≠ 0#8
          | .fall => old ≠ 0#8 ∧ new = 0#8
          | .equal m => new = m ∧ old ≠ m
          | .each => False) →
        (¬ met → u.afterChange serving old new n = u)
        ∧ (met → u.mark = none → (u.afterChange serving old new n).mark = some { count := 1, snap := new })
        ∧ (met → ∀ k ∈ u.mark, ∃ c : Fin 16, (u.afterChange serving old new n).mark = some { count := c, snap := new }
            ∧ c.val = min (k.count.val + 1) 15))
    ∧ (u.mode = .latched → u.cond = .each → 1 ≤ n → n ≤ 15 →
        ∃ c : Fin 16, (u.afterChange serving old new n).mark = some { count := c, snap := new }
          ∧ (u.mark = none → c.val = n) ∧ ∀ k ∈ u.mark, c.val = min (k.count.val + n) 15)
    ∧ (u.mode = .held → serving = true → u.afterChange serving old new n = u)
    ∧ (u.mode = .held → serving = false → ∀ predicate : Prop,
        (predicate ↔ match u.cond with
          | .rise => new ≠ 0#8
          | .fall => new = 0#8
          | .equal m => new = m
          | .any | .each => False) →
        (predicate → (u.afterChange serving old new n).mark = some { count := 1, snap := new })
        ∧ (¬ predicate → (u.afterChange serving old new n).mark = none))

/-- SUBSCRIBE on a LIVE record, user or system: codes and combination, service, space, in that order (R44 to R46); then the
port's subscription stands with the settings asked for, no mark, and one evaluation if HELD (R47 to R49). A replacement that
takes GUARD away takes the port out of the awaited set (R48, R100). p receives an indication where a mark went or came. The answer carries the value, version and mark as the
command leaves them (assumption 9) and whether it replaced one. The record's value and version move only if a warning
ends. -/
def Obligations.SubscribeOutcomes : Prop :=
  ∀ (s : State) (p : Port) (tag : Byte) (h : Handle) (prio cond matchValue mode cls attrs : Byte) (rest : List Queued)
    (i : SlotNo) (r : Record),
    Takes s p tag (.subscribe h prio cond matchValue mode cls attrs) rest → Names s h i r → r.state = .live →
    ((∀ new : Sub, ¬ AskedBy new i r.kind prio cond matchValue mode cls attrs) →
      exec (.subscribe p) s = s.bare p tag .subscribe rest .badParam)
    ∧ ∀ new : Sub, AskedBy new i r.kind prio cond matchValue mode cls attrs →
        ((r.subs[p]).isSome = true → s.inService p i = true →
          exec (.subscribe p) s = s.bare p tag .subscribe rest .inService)
        ∧ (r.subs[p] = none → 192 ≤ s.poolInUse → exec (.subscribe p) s = s.bare p tag .subscribe rest .poolFull)
        ∧ ((r.subs[p] = none ∧ s.poolInUse < 192) ∨ ((r.subs[p]).isSome = true ∧ s.inService p i = false) →
            ∃ t b m a, exec (.subscribe p) s = .next t
              ∧ a = { tag := tag, code := .subscribe, status := .ok
                      fields :=
                        [t.valueAt i, hiByte (t.versionAt i), loByte (t.versionAt i),
                          (if isPending (t.subAt i p) = true then 1#8 else 0#8)
                            + (if (r.subs[p]).isSome = true then 2#8 else 0#8)] }
              ∧ b = { s.answered p rest a with
                      slots := s.slots.set i
                        { s.slots[i] with
                          record := some { r with subs := r.subs.set p (some (new.settled r.value)) } } }
              ∧ (if (r.subs[p]).any (·.guard) = true ∧ new.guard = false then GuardGone b m i p else m = b)
              ∧ Ends s m t (if isPending (r.subs[p]) = true ∨ isPending (some (new.settled r.value)) = true then [p] else []))

/-- UNSUBSCRIBE on a LIVE record: subscription, service, in that order; then the subscription is gone, its pool entry with it,
and a GUARD one takes its port out of the awaited set, with the end of the warning where it was the last (R50, R51, R100). -/
def Obligations.UnsubscribeOutcomes : Prop :=
  ∀ (s : State) (p : Port) (tag : Byte) (h : Handle) (rest : List Queued) (i : SlotNo) (r : Record),
    Takes s p tag (.unsubscribe h) rest → Names s h i r → r.state = .live →
    (r.subs[p] = none → exec (.unsubscribe p) s = s.bare p tag .unsubscribe rest .notSubscribed)
    ∧ ((r.subs[p]).isSome = true → s.inService p i = true →
        exec (.unsubscribe p) s = s.bare p tag .unsubscribe rest .inService)
    ∧ ∀ u, r.subs[p] = some u → s.inService p i = false →
        ∃ t b m, exec (.unsubscribe p) s = .next t
          ∧ b = { s.answered p rest { tag := tag, code := .unsubscribe, status := .ok, fields := [] } with
                  slots := s.slots.set i { s.slots[i] with record := some { r with subs := r.subs.set p none } } }
          ∧ (if u.guard = true then GuardGone b m i p else m = b)
          ∧ Ends s m t []

/-! ## Attention and service (Chapter 4) -/

/-- ACQUIRE: with no subscription eligible by R62 the answer is NONE and nothing changes (R65). Otherwise the one R66 selects
is taken into service: the pointer of its priority takes its slot, its mark goes, the token counter advances and names the
new newest entry, the deadline timer of (p, k) starts with 4 to the power of its class ticks where the class is not 0, and an
indication goes to p (R67, R69, R84). The answer carries the fields of Table 4-2, with the count and snap the mark had. -/
def Obligations.AcquireOutcomes : Prop :=
  ∀ (s : State) (p : Port) (tag : Byte) (rest : List Queued), Takes s p tag .acquire rest →
    ((∀ i u, ¬ Eligible s p i u) → exec (.acquire p) s = s.bare p tag .acquire rest .none)
    ∧ ∀ (i : SlotNo) (u : Sub) (k : Mark) (r : Record), SelectedBy s p i u → u.mark = some k → s.slots[i].record = some r →
        ∃ t token, exec (.acquire p) s = .next t ∧ token = s.services[p].tokenCounter + 1#8
          ∧ t = { s.answered p rest
                    { tag := tag, code := .acquire, status := .ok
                      fields :=
                        [BitVec.ofNat 8 i.val, s.slots[i].gen, hiByte r.id, loByte r.id, BitVec.ofNat 8 u.priority.val,
                          BitVec.ofNat 8 k.count.val, k.snap, r.value, hiByte r.version, loByte r.version, token] } with
                  slots := s.slots.set i
                    { s.slots[i] with record := some { r with subs := r.subs.set p (some { u with mark := none }) } }
                  services := s.services.set p
                    { list := s.services[p].list ++ [{ slot := i, token := token, overdue := false }]
                      threshold := s.services[p].threshold
                      rotation := s.services[p].rotation.set u.priority i
                      tokenCounter := token }
                  deadlines := t.deadlines, ports := t.ports }
          ∧ (∀ (q : Port) (j : Prio), t.deadlines[q][j] =
              if q = p ∧ j = u.priority ∧ u.cls ≠ 0 then
                { s.deadlines[q][j] with timer := some { slot := i, token := token, remaining := 4 ^ u.cls.val } }
              else s.deadlines[q][j])
          ∧ PortsStand (s.answered p rest
              { tag := tag, code := .acquire, status := .ok
                fields :=
                  [BitVec.ofNat 8 i.val, s.slots[i].gen, hiByte r.id, loByte r.id, BitVec.ofNat 8 u.priority.val,
                    BitVec.ofNat 8 k.count.val, k.snap, r.value, hiByte r.version, loByte r.version, token] }) t
          ∧ IndicationsExact s t [p]

/-- RELEASE of a record on which p has no service entry is answered NOT_IN_SERVICE, and RELEASE_TOP with an empty list NONE;
nothing changes (R71, R74). Otherwise the entry named, or the newest, ends by the stages of R72 and is answered with the
fields of R73. -/
def Obligations.ReleasesEndTheEntry : Prop :=
  ∀ (s : State) (p : Port) (tag : Byte) (rest : List Queued), ServiceListsOrdered s → SystemRecordsStand s →
    (∀ h i r, Takes s p tag (.release h) rest → Names s h i r →
      (s.inService p i = false → exec (.release p) s = s.bare p tag .release rest .notInService)
      ∧ ∀ e ∈ s.services[p].list, e.slot = i → ∀ u, r.subs[p] = some u →
          ∃ t, exec (.release p) s = .next t
            ∧ EntryEnds s t p rest
                { tag := tag, code := .release, status := .ok, fields := releaseBytes s t p r e } e u)
    ∧ (Takes s p tag .releaseTop rest →
        (s.services[p].list = [] → exec (.releaseTop p) s = s.bare p tag .releaseTop rest .none)
        ∧ ∀ older e r u, s.services[p].list = older ++ [e] → s.slots[e.slot].record = some r → r.subs[p] = some u →
            ∃ t, exec (.releaseTop p) s = .next t
              ∧ EntryEnds s t p rest
                  { tag := tag, code := .releaseTop, status := .ok, fields := releaseBytes s t p r e } e u)

/-- THRESHOLD: 0 to 8 becomes the port's threshold, the answer carries the one before, and an indication goes to p whether or
not it moved; above 8 is BAD_PARAM (R64, R63). Nothing else moves. -/
def Obligations.ThresholdOutcomes : Prop :=
  ∀ (s : State) (p : Port) (tag n : Byte) (rest : List Queued), Takes s p tag (.threshold n) rest →
    (9 ≤ n.toNat → exec (.threshold p) s = s.bare p tag .threshold rest .badParam)
    ∧ ∀ v : Fin 9, n.toNat = v.val →
        ∃ t a, exec (.threshold p) s = .next t
          ∧ a = { tag := tag, code := .threshold, status := .ok
                  fields := [BitVec.ofNat 8 s.services[p].threshold.val] }
          ∧ t = { s.answered p rest a with
                  services := s.services.set p { s.services[p] with threshold := v }, ports := t.ports }
          ∧ PortsStand (s.answered p rest a) t ∧ IndicationsExact s t [p]

/-! ## Reset domains (Chapter 6) -/

/-- DOMAIN_RESET from a CONTROL port: a bad domain or mode is BAD_PARAM (R94). In RUN, WARNED with a GUARD subscription on
the DOMAIN record starts a warning and is answered STARTED with serial, awaited set and timeout (R95); without one, and for
IMMEDIATE, d is swept and HELD, and the answer OK carries how many records changed (R96, R97). In WARNING, WARNED is
answered BUSY with what is under way and IMMEDIATE ends the warning (R98). HELD is answered ALREADY, and nothing changes
(R99). -/
def Obligations.DomainResetOutcomes : Prop :=
  ∀ (s : State) (p : Port) (tag dom mode timeout : Byte) (rest : List Queued),
    Takes s p tag (.domainReset dom mode timeout) rest → s.ports[p].cls = .control →
    (8 ≤ dom.toNat ∨ 2 ≤ mode.toNat → exec (.domainReset p) s = s.bare p tag .domainReset rest .badParam)
    ∧ ∀ (d : Dom) (awaited : Vector Bool 6) (set : Byte), dom.toNat = d.val →
        (s.domains[d].state = .run → mode = 0#8 →
          (∀ q : Port, awaited[q] = (s.subAt (domainSlot d) q).any (·.guard)) → (∃ q : Port, awaited[q] = true) →
          (∀ n : Nat, set.getLsbD n = (awaited[n]?).getD false) →
          ∃ t b, exec (.domainReset p) s = .next t
            ∧ b = { s.answered p rest
                      { tag := tag, code := .domainReset, status := .started
                        fields := [s.domains[d].serial + 1#8, set, timeout] } with
                    domains := s.domains.set d
                      { state := .warning, awaited := awaited, serial := s.domains[d].serial + 1#8, timeout := timeout }
                    warnings :=
                      if timeout = 0#8 then s.warnings
                      else s.warnings.set d
                        { s.warnings[d] with
                          timer := some { serial := s.domains[d].serial + 1#8, remaining := 16 * timeout.toNat } } }
            ∧ GivenValue b t (domainSlot d) 1#8)
        ∧ (s.domains[d].state = .run →
            mode = 1#8 ∨ (mode = 0#8 ∧ ∀ q : Port, (s.subAt (domainSlot d) q).any (·.guard) = false) →
            ∃ t m, exec (.domainReset p) s = .next t
              ∧ SweptInto (s.answered p rest
                  { tag := tag, code := .domainReset, status := .ok, fields := [BitVec.ofNat 8 (s.sweptCount d)] }) m d
                  { s.domains[d] with state := .held }
              ∧ Ends s m t [])
        ∧ (s.domains[d].state = .warning → mode = 0#8 →
            (∀ n : Nat, set.getLsbD n = (s.domains[d].awaited[n]?).getD false) →
            exec (.domainReset p) s = .next (s.answered p rest
              { tag := tag, code := .domainReset, status := .busy
                fields := [s.domains[d].serial, set, s.domains[d].timeout] }))
        ∧ (s.domains[d].state = .warning → mode = 1#8 →
            ∃ t m, exec (.domainReset p) s = .next t
              ∧ WarningEnds (s.answered p rest
                  { tag := tag, code := .domainReset, status := .ok, fields := [BitVec.ofNat 8 (s.sweptCount d)] }) m d
              ∧ Ends s m t [])
        ∧ (s.domains[d].state = .held → mode.toNat < 2 →
            exec (.domainReset p) s = .next (s.answered p rest
              { tag := tag, code := .domainReset, status := .already, fields := [0x02#8] }))

/-- DOMAIN_RELEASE from a CONTROL port: a bad domain is BAD_PARAM. In RUN it is answered ALREADY; in WARNING the warning is
cancelled without a sweep (R105); from HELD d returns to RUN, its DOMAIN record takes 0, and each LIVE INPUT-bound record of
d takes the value of its pin's accepted level; the answer carries the state before and how many of them changed (R106). -/
def Obligations.DomainReleaseOutcomes : Prop :=
  ∀ (s : State) (p : Port) (tag dom : Byte) (rest : List Queued),
    Takes s p tag (.domainRelease dom) rest → s.ports[p].cls = .control → SystemRecordsStand s →
    (8 ≤ dom.toNat → exec (.domainRelease p) s = s.bare p tag .domainRelease rest .badParam)
    ∧ ∀ d : Dom, dom.toNat = d.val →
        (s.domains[d].state = .run → exec (.domainRelease p) s = .next (s.answered p rest
            { tag := tag, code := .domainRelease, status := .already, fields := [0x00#8] }))
        ∧ (s.domains[d].state = .warning → ∃ t, exec (.domainRelease p) s = .next t
            ∧ GivenValue
                { s.answered p rest
                    { tag := tag, code := .domainRelease, status := .ok, fields := [0x01#8, 0x00#8] } with
                  domains := s.domains.set d
                    { state := .run, awaited := Vector.replicate 6 false, serial := s.domains[d].serial, timeout := 0#8 }
                  warnings := s.warnings.set d { s.warnings[d] with timer := none } }
                t (domainSlot d) 0#8)
        ∧ (s.domains[d].state = .held → ∃ t m, exec (.domainRelease p) s = .next t
            ∧ Reapplied (s.answered p rest
                { tag := tag, code := .domainRelease, status := .ok
                  fields := [0x02#8, BitVec.ofNat 8 (s.reappliedCount d)] }) m d
            ∧ Ends s m t [])

/-! ## Pins (Chapter 7) and EVICT (Chapter 9) -/

/-- BIND_PIN from a CONTROL port on a LIVE record: system record, parameters, pin, record, and for INPUT lock and owner, in
that order (R113). INPUT: the binding carries the pin's next serial, the owner becomes the pin, the pin is sampled at once
into raw and accepted level with the count at 0, and the record takes 1 at the active level and 0 else, unless its domain is
HELD (R112, R114). OUTPUT: the binding is made and the pin driven from the value (R115, R116). The answer carries serial,
accepted level or FFH, value and version. `found` is what the board drives at the pin; where it drives nothing the level is
free (assumption 5). -/
def Obligations.BindPinOutcomes : Prop :=
  ∀ (s : State) (p : Port) (found : Option Level) (tag pin : Byte) (h : Handle) (dir active filter : Byte)
    (rest : List Queued) (i : SlotNo) (r : Record),
    Takes s p tag (.bindPin pin h dir active filter) rest → s.ports[p].cls = .control → Names s h i r → r.state = .live →
    (i.val < 20 → exec (.bindPin p found) s = s.bare p tag .bindPin rest .denied)
    ∧ (20 ≤ i.val →
        (16 ≤ pin.toNat ∨ 2 ≤ dir.toNat ∨ 2 ≤ active.toNat ∨ (dir = 0#8 ∧ 16 ≤ filter.toNat) ∨ r.kind = .event →
          exec (.bindPin p found) s = s.bare p tag .bindPin rest .badParam)
        ∧ ∀ (g : Pin) (l : Level), pin.toNat = g.val → active = levelByte l → r.kind = .level →
            dir = 1#8 ∨ (dir = 0#8 ∧ filter.toNat < 16) →
            (s.pins[g].binding ≠ none ∨ (∃ g' : Pin, (s.pins[g'].binding.any fun b => b.slot = i) = true) →
              exec (.bindPin p found) s = s.bare p tag .bindPin rest .bound)
            ∧ (s.pins[g].binding = none → (∀ g' : Pin, (s.pins[g'].binding.any fun b => b.slot = i) = false) →
                (dir = 0#8 → r.locked = true → exec (.bindPin p found) s = s.bare p tag .bindPin rest .locked)
                ∧ (dir = 0#8 → r.locked = false → r.owner ≠ .port p → r.owner ≠ .nobody →
                    exec (.bindPin p found) s = s.bare p tag .bindPin rest .notOwner)
                ∧ (∀ f : Fin 16, dir = 0#8 → filter.toNat = f.val → r.locked = false →
                    r.owner = .port p ∨ r.owner = .nobody →
                    ∃ t b x raw, exec (.bindPin p found) s = .next t ∧ (∀ l' ∈ found, raw = l')
                      ∧ x = { s.pins[g] with
                              raw := raw, input := some { accepted := raw, count := 0, due := false }, driver := .highZ
                              serialCounter := s.pins[g].serialCounter + 1#8
                              binding := some
                                { slot := i, dir := .input f, active := l, serial := s.pins[g].serialCounter + 1#8 } }
                      ∧ b = { s.answered p rest
                                { tag := tag, code := .bindPin, status := .ok
                                  fields :=
                                    [s.pins[g].serialCounter + 1#8, levelByte raw, t.valueAt i, hiByte (t.versionAt i),
                                      loByte (t.versionAt i)] } with
                              pins := s.pins.set g x
                              slots := s.slots.set i { s.slots[i] with record := some { r with owner := .pin g } }
                              samples := s.samples + 1 }
                      ∧ (s.domainHeld r.domain = true → t = b)
                      ∧ (s.domainHeld r.domain = false → GivenValue b t i (if raw = l then 1#8 else 0#8)))
                ∧ (dir = 1#8 → exec (.bindPin p found) s = .next
                    { s.answered p rest
                        { tag := tag, code := .bindPin, status := .ok
                          fields :=
                            [s.pins[g].serialCounter + 1#8, 0xFF#8, r.value, hiByte r.version, loByte r.version] } with
                      pins := s.pins.set g
                        { s.pins[g] with
                          serialCounter := s.pins[g].serialCounter + 1#8
                          driver := .driving (driveLevel l r.value)
                          binding := some
                            { slot := i, dir := .output, active := l, serial := s.pins[g].serialCounter + 1#8 } } })))
    ∧ ∀ v : Byte, v ≠ 0#8 →
        driveLevel .high v = .high ∧ driveLevel .low v = .low ∧ driveLevel .high 0#8 = .low ∧ driveLevel .low 0#8 = .high

/-- UNBIND_PIN from a CONTROL port: pin number, binding, in that order; then the binding is gone, the pin at high impedance
and its filter discarded, a raised flag left; a record that was INPUT-bound is owned by NONE, and no value moves. The answer
carries the handle and the direction (R120). -/
def Obligations.UnbindPinOutcomes : Prop :=
  ∀ (s : State) (p : Port) (tag pin : Byte) (rest : List Queued),
    Takes s p tag (.unbindPin pin) rest → s.ports[p].cls = .control →
    (16 ≤ pin.toNat → exec (.unbindPin p) s = s.bare p tag .unbindPin rest .badParam)
    ∧ ∀ g : Pin, pin.toNat = g.val →
        (s.pins[g].binding = none → exec (.unbindPin p) s = s.bare p tag .unbindPin rest .notBound)
        ∧ ∀ b r, s.pins[g].binding = some b → s.slots[b.slot].record = some r →
            exec (.unbindPin p) s = .next
              { s.answered p rest
                  { tag := tag, code := .unbindPin, status := .ok
                    fields :=
                      [BitVec.ofNat 8 b.slot.val, s.slots[b.slot].gen, if b.dir = .output then 0x01#8 else 0x00#8] } with
                pins := s.pins.set g { s.pins[g] with binding := none, input := none, driver := .highZ }
                slots := s.slots.set b.slot
                  { s.slots[b.slot] with
                    record := some (if b.dir = .output then r else { r with owner := .nobody }) } }

/-- EVICT from a CONTROL port: a port number above 5 or the issuing port itself is BAD_PARAM, a disabled port NOT_OPEN;
otherwise the answer carries the target's LINK value, an evict request is on its way to the target, and nothing else moves
(R149). -/
def Obligations.EvictOutcomes : Prop :=
  ∀ (s : State) (p : Port) (tag port : Byte) (rest : List Queued),
    Takes s p tag (.evict port) rest → s.ports[p].cls = .control →
    (6 ≤ port.toNat ∨ port.toNat = p.val → exec (.evict p) s = s.bare p tag .evict rest .badParam)
    ∧ ∀ q : Port, port.toNat = q.val → q ≠ p →
        (s.ports[q].enabled = false → exec (.evict p) s = s.bare p tag .evict rest .notOpen)
        ∧ (s.ports[q].enabled = true → ∃ b, exec (.evict p) s = .next
              { b with ports := b.ports.set q { s.ports[q] with inEvict := true } }
            ∧ b = s.answered p rest
                { tag := tag, code := .evict, status := .ok, fields := [s.valueAt (linkSlot q)] })

/-! ## Frames and bodies as bytes (Chapter 11) -/

/-- Every command a SUBMIT body can carry is read back from the body Table 11-6 lays out for it, with every parameter at every
value, and the body has the length that table gives; a READ_GROUP counts its handles in one byte. Every other body is none of
a command: one that is read as a command is the body laid out for it (R132, R162). -/
def Obligations.SubmitBodiesReadBack : Prop :=
  (∀ (tag : Byte) (c : Command), (∀ hs, c = .readGroup hs → hs.length < 256) →
    decodeSubmit (encodeSubmit tag c) = some (tag, c)
      ∧ (encodeSubmit tag c).length =
        match c with
        | .declare .. => 9
        | .retire _ | .claim _ | .lookup _ | .lock _ | .read _ | .unsubscribe _ | .release _ => 4
        | .set .. | .raise .. | .domainReset .. => 5
        | .setIf .. => 7
        | .readGroup hs => 3 + 2 * hs.length
        | .subscribe .. => 10
        | .acquire | .releaseTop | .serviceList => 2
        | .threshold _ | .domainRelease _ | .unbindPin _ | .pinQuery _ | .evict _ => 3
        | .bindPin .. => 8)
    ∧ ∀ (body : List Byte) (tag : Byte) (c : Command), decodeSubmit body = some (tag, c) →
        body = encodeSubmit tag c ∧ ∀ hs, c = .readGroup hs → hs.length < 256

/-- A master frame sent by Table 11-1 with one of the codes of Table 11-3, and any bytes after its CRC byte, is taken as that
frame with that body; any other code is a frame of unknown kind; and the CRC procedure run over the whole frame, CRC byte
included, gives 00H. A selection that ends before its length byte is cut short; one with a length above 40 is over-long, its
CRC not looked for; one with a length L up to 40 and fewer than 3 + L bytes is cut short; and one whose CRC byte differs from
the CRC of the bytes before it has a bad CRC (R127, R128, R161). -/
def Obligations.FramesReadBack : Prop :=
  (∀ (p : Port) (body after : List Byte), body.length ≤ 40 →
    decodeSelection p (frameBytes 0xC1#8 body ++ after) = .hello p body
    ∧ decodeSelection p (frameBytes 0xC2#8 body ++ after) = .submit p body
    ∧ decodeSelection p (frameBytes 0xC3#8 body ++ after) = .pull p body
    ∧ decodeSelection p (frameBytes 0xC4#8 body ++ after) = .resetLink p body
    ∧ decodeSelection p (frameBytes 0xC5#8 body ++ after) = .peek p body
    ∧ (∀ kind : Byte, kind.toNat < 0xC1 ∨ 0xC5 < kind.toNat →
        decodeSelection p (frameBytes kind body ++ after) = .unknownKindFrame p kind body)
    ∧ ∀ code : Byte, crc8 (frameBytes code body) = 0#8)
    ∧ ∀ p : Port,
      (∀ bytes : List Byte, bytes.length < 2 → decodeSelection p bytes = .badFrame p .cutShort)
      ∧ ∀ (code len : Byte) (rest : List Byte),
        (40 < len.toNat → decodeSelection p (code :: len :: rest) = .badFrame p .overLong)
        ∧ (len.toNat ≤ 40 →
            ((code :: len :: rest).length < 3 + len.toNat →
              decodeSelection p (code :: len :: rest) = .badFrame p .cutShort)
            ∧ ∀ (body after : List Byte) (crc : Byte), rest = body ++ crc :: after → body.length = len.toNat →
                crc ≠ crc8 (code :: len :: body) → decodeSelection p (code :: len :: rest) = .badFrame p .badCrc)

/-! ## Whole-part invariants -/

/-- The part in cold reset meets every invariant below. -/
def Obligations.ResetMeetsTheInvariants : Prop :=
  QueuesWithin State.reset ∧ IdMapExact State.reset ∧ SystemRecordsStand State.reset ∧ ServiceListsOrdered State.reset
    ∧ OverdueCounted State.reset ∧ HeldAtDefault State.reset ∧ AwaitedAreGuards State.reset ∧ BindingsStand State.reset
    ∧ OutputsFollow State.reset ∧ DrainingInService State.reset ∧ PoolWithin State.reset ∧ MarksCounted State.reset

/-- Every step keeps the bounds of the queues (R124, R133, R146), the answer of a command chosen before a tick counted
(assumption 19). -/
def Obligations.StepsKeepQueuesWithin : Prop := ∀ s t : State, QueuesWithin s → step s = .next t → QueuesWithin t

/-- Every step keeps the Id Map exact (R5). -/
def Obligations.StepsKeepIdMapExact : Prop := ∀ s t : State, IdMapExact s → step s = .next t → IdMapExact t

/-- Every step keeps the system records standing, and each DOMAIN record at the code of its domain's state (R8, R9, R93). -/
def Obligations.StepsKeepSystemRecords : Prop :=
  ∀ s t : State, SystemRecordsStand s → step s = .next t → SystemRecordsStand t

/-- Every step keeps each service list strictly decreasing in priority number, with a subscription behind every entry (R70). -/
def Obligations.StepsKeepServiceListsOrdered : Prop :=
  ∀ s t : State, ServiceListsOrdered s → step s = .next t → ServiceListsOrdered t

/-- Every step keeps each OVERDUE record equal to the number of its port's OVERDUE entries (R89). -/
def Obligations.StepsKeepOverdueCounted : Prop :=
  ∀ s t : State, SystemRecordsStand s → ServiceListsOrdered s → OverdueCounted s → step s = .next t → OverdueCounted t

/-- Every step keeps every LIVE unlocked LEVEL record of a HELD domain at its default (R107). -/
def Obligations.StepsKeepHeldAtDefault : Prop := ∀ s t : State, HeldAtDefault s → step s = .next t → HeldAtDefault t

/-- Every step keeps the awaited sets empty outside WARNING and within the GUARD subscribers (R100). -/
def Obligations.StepsKeepAwaitedAreGuards : Prop :=
  ∀ s t : State, AwaitedAreGuards s → step s = .next t → AwaitedAreGuards t

/-- Every step keeps pins, bindings, owners and drivers in agreement (R4, R109). -/
def Obligations.StepsKeepBindingsStand : Prop := ∀ s t : State, BindingsStand s → step s = .next t → BindingsStand t

/-- Every step keeps each OUTPUT-bound pin at the level its record's value gives (R116). -/
def Obligations.StepsKeepOutputsFollow : Prop :=
  ∀ s t : State, BindingsStand s → OutputsFollow s → step s = .next t → OutputsFollow t

/-- Every step keeps each subscription of a DRAINING record in service and without a mark, with at least one on it (R18). -/
def Obligations.StepsKeepDrainingInService : Prop :=
  ∀ s t : State, SystemRecordsStand s → BindingsStand s → DrainingInService s → step s = .next t → DrainingInService t

/-- No step takes the Subscription Pool past 192 entries (R41), or leaves a pending subscription with a count of 0, or a HELD
one with a count other than 1 (R42, R54, R56). -/
def Obligations.StepsKeepPoolAndMarks : Prop :=
  (∀ s t : State, PoolWithin s → step s = .next t → PoolWithin t)
    ∧ ∀ s t : State, MarksCounted s → step s = .next t → MarksCounted t

/-- From one cold reset to the next, no step alters a port's enable or class (R110, R124), and a slot's generation moves only
where a FREE user slot takes a record, by 1 with 255 followed by 1 (R3). -/
def Obligations.StrapsAndGenerationsStand : Prop :=
  ∀ s t : State, s.rstLow = false → step s = .next t → t.rstLow = false →
    (∀ p : Port, t.ports[p].enabled = s.ports[p].enabled ∧ t.ports[p].cls = s.ports[p].cls)
    ∧ ∀ i : SlotNo, t.slots[i].gen = s.slots[i].gen
        ∨ (20 ≤ i.val ∧ s.slots[i].record = none ∧ (t.slots[i].record).isSome = true
            ∧ t.slots[i].gen = if s.slots[i].gen = 255#8 then 1#8 else s.slots[i].gen + 1#8)

/-- From one cold reset to the next, no step moves a LIVE locked user record out of LIVE, or alters its lock, generation, id,
kind, value, version, default, domain, owner or orphan policy (R23). -/
def Obligations.LockedRecordsStandUntilColdReset : Prop :=
  ∀ s t : State, BindingsStand s → s.rstLow = false → step s = .next t → t.rstLow = false → LockedRecordsKept s t
end

