-- ==== Sys2Proof/Laws/State.lean ====
section
/-! SUPPORT. What each update of the state leaves of each field, so that a proof about a step need not unfold an update; and
what a reading of the updated vectors finds. -/

namespace Sys2Proof.Machine

open Sys2Proof

variable (s : State)

/-! ## modPort -/

@[simp] theorem State.modPort_pending (p : Port) (f : PortState → PortState) :
    (s.modPort p f).pending = s.pending := rfl
@[simp] theorem State.modPort_rstLow (p : Port) (f : PortState → PortState) : (s.modPort p f).rstLow = s.rstLow := rfl
@[simp] theorem State.modPort_divider (p : Port) (f : PortState → PortState) :
    (s.modPort p f).divider = s.divider := rfl
@[simp] theorem State.modPort_deadlines (p : Port) (f : PortState → PortState) :
    (s.modPort p f).deadlines = s.deadlines := rfl
@[simp] theorem State.modPort_warnings (p : Port) (f : PortState → PortState) :
    (s.modPort p f).warnings = s.warnings := rfl
@[simp] theorem State.modPort_slots (p : Port) (f : PortState → PortState) : (s.modPort p f).slots = s.slots := rfl
@[simp] theorem State.modPort_idMap (p : Port) (f : PortState → PortState) : (s.modPort p f).idMap = s.idMap := rfl
@[simp] theorem State.modPort_services (p : Port) (f : PortState → PortState) :
    (s.modPort p f).services = s.services := rfl
@[simp] theorem State.modPort_domains (p : Port) (f : PortState → PortState) :
    (s.modPort p f).domains = s.domains := rfl
@[simp] theorem State.modPort_pins (p : Port) (f : PortState → PortState) : (s.modPort p f).pins = s.pins := rfl
@[simp] theorem State.modPort_ports (p : Port) (f : PortState → PortState) :
    (s.modPort p f).ports = s.ports.set p (f s.ports[p]) := rfl
@[simp] theorem State.modPort_lastServed (p : Port) (f : PortState → PortState) :
    (s.modPort p f).lastServed = s.lastServed := rfl
@[simp] theorem State.modPort_taking (p : Port) (f : PortState → PortState) : (s.modPort p f).taking = s.taking := rfl
@[simp] theorem State.modPort_samples (p : Port) (f : PortState → PortState) :
    (s.modPort p f).samples = s.samples := rfl

/-! ## modPin -/

@[simp] theorem State.modPin_pending (g : Pin) (f : PinState → PinState) : (s.modPin g f).pending = s.pending := rfl
@[simp] theorem State.modPin_rstLow (g : Pin) (f : PinState → PinState) : (s.modPin g f).rstLow = s.rstLow := rfl
@[simp] theorem State.modPin_divider (g : Pin) (f : PinState → PinState) : (s.modPin g f).divider = s.divider := rfl
@[simp] theorem State.modPin_deadlines (g : Pin) (f : PinState → PinState) :
    (s.modPin g f).deadlines = s.deadlines := rfl
@[simp] theorem State.modPin_warnings (g : Pin) (f : PinState → PinState) :
    (s.modPin g f).warnings = s.warnings := rfl
@[simp] theorem State.modPin_slots (g : Pin) (f : PinState → PinState) : (s.modPin g f).slots = s.slots := rfl
@[simp] theorem State.modPin_idMap (g : Pin) (f : PinState → PinState) : (s.modPin g f).idMap = s.idMap := rfl
@[simp] theorem State.modPin_services (g : Pin) (f : PinState → PinState) :
    (s.modPin g f).services = s.services := rfl
@[simp] theorem State.modPin_domains (g : Pin) (f : PinState → PinState) : (s.modPin g f).domains = s.domains := rfl
@[simp] theorem State.modPin_pins (g : Pin) (f : PinState → PinState) :
    (s.modPin g f).pins = s.pins.set g (f s.pins[g]) := rfl
@[simp] theorem State.modPin_ports (g : Pin) (f : PinState → PinState) : (s.modPin g f).ports = s.ports := rfl
@[simp] theorem State.modPin_lastServed (g : Pin) (f : PinState → PinState) :
    (s.modPin g f).lastServed = s.lastServed := rfl
@[simp] theorem State.modPin_taking (g : Pin) (f : PinState → PinState) : (s.modPin g f).taking = s.taking := rfl
@[simp] theorem State.modPin_samples (g : Pin) (f : PinState → PinState) : (s.modPin g f).samples = s.samples := rfl

/-! ## modService -/

@[simp] theorem State.modService_pending (p : Port) (f : Service → Service) :
    (s.modService p f).pending = s.pending := rfl
@[simp] theorem State.modService_rstLow (p : Port) (f : Service → Service) :
    (s.modService p f).rstLow = s.rstLow := rfl
@[simp] theorem State.modService_divider (p : Port) (f : Service → Service) :
    (s.modService p f).divider = s.divider := rfl
@[simp] theorem State.modService_deadlines (p : Port) (f : Service → Service) :
    (s.modService p f).deadlines = s.deadlines := rfl
@[simp] theorem State.modService_warnings (p : Port) (f : Service → Service) :
    (s.modService p f).warnings = s.warnings := rfl
@[simp] theorem State.modService_slots (p : Port) (f : Service → Service) : (s.modService p f).slots = s.slots := rfl
@[simp] theorem State.modService_idMap (p : Port) (f : Service → Service) : (s.modService p f).idMap = s.idMap := rfl
@[simp] theorem State.modService_services (p : Port) (f : Service → Service) :
    (s.modService p f).services = s.services.set p (f s.services[p]) := rfl
@[simp] theorem State.modService_domains (p : Port) (f : Service → Service) :
    (s.modService p f).domains = s.domains := rfl
@[simp] theorem State.modService_pins (p : Port) (f : Service → Service) : (s.modService p f).pins = s.pins := rfl
@[simp] theorem State.modService_ports (p : Port) (f : Service → Service) : (s.modService p f).ports = s.ports := rfl
@[simp] theorem State.modService_lastServed (p : Port) (f : Service → Service) :
    (s.modService p f).lastServed = s.lastServed := rfl
@[simp] theorem State.modService_taking (p : Port) (f : Service → Service) : (s.modService p f).taking = s.taking := rfl
@[simp] theorem State.modService_samples (p : Port) (f : Service → Service) :
    (s.modService p f).samples = s.samples := rfl

/-! ## modDomain -/

@[simp] theorem State.modDomain_pending (d : Dom) (f : DomainEntry → DomainEntry) :
    (s.modDomain d f).pending = s.pending := rfl
@[simp] theorem State.modDomain_rstLow (d : Dom) (f : DomainEntry → DomainEntry) :
    (s.modDomain d f).rstLow = s.rstLow := rfl
@[simp] theorem State.modDomain_divider (d : Dom) (f : DomainEntry → DomainEntry) :
    (s.modDomain d f).divider = s.divider := rfl
@[simp] theorem State.modDomain_deadlines (d : Dom) (f : DomainEntry → DomainEntry) :
    (s.modDomain d f).deadlines = s.deadlines := rfl
@[simp] theorem State.modDomain_warnings (d : Dom) (f : DomainEntry → DomainEntry) :
    (s.modDomain d f).warnings = s.warnings := rfl
@[simp] theorem State.modDomain_slots (d : Dom) (f : DomainEntry → DomainEntry) :
    (s.modDomain d f).slots = s.slots := rfl
@[simp] theorem State.modDomain_idMap (d : Dom) (f : DomainEntry → DomainEntry) :
    (s.modDomain d f).idMap = s.idMap := rfl
@[simp] theorem State.modDomain_services (d : Dom) (f : DomainEntry → DomainEntry) :
    (s.modDomain d f).services = s.services := rfl
@[simp] theorem State.modDomain_domains (d : Dom) (f : DomainEntry → DomainEntry) :
    (s.modDomain d f).domains = s.domains.set d (f s.domains[d]) := rfl
@[simp] theorem State.modDomain_pins (d : Dom) (f : DomainEntry → DomainEntry) :
    (s.modDomain d f).pins = s.pins := rfl
@[simp] theorem State.modDomain_ports (d : Dom) (f : DomainEntry → DomainEntry) :
    (s.modDomain d f).ports = s.ports := rfl
@[simp] theorem State.modDomain_lastServed (d : Dom) (f : DomainEntry → DomainEntry) :
    (s.modDomain d f).lastServed = s.lastServed := rfl
@[simp] theorem State.modDomain_taking (d : Dom) (f : DomainEntry → DomainEntry) :
    (s.modDomain d f).taking = s.taking := rfl
@[simp] theorem State.modDomain_samples (d : Dom) (f : DomainEntry → DomainEntry) :
    (s.modDomain d f).samples = s.samples := rfl

/-! ## modDeadline -/

@[simp] theorem State.modDeadline_pending (p : Port) (k : Prio) (f : DeadlineUnit → DeadlineUnit) :
    (s.modDeadline p k f).pending = s.pending := rfl
@[simp] theorem State.modDeadline_rstLow (p : Port) (k : Prio) (f : DeadlineUnit → DeadlineUnit) :
    (s.modDeadline p k f).rstLow = s.rstLow := rfl
@[simp] theorem State.modDeadline_divider (p : Port) (k : Prio) (f : DeadlineUnit → DeadlineUnit) :
    (s.modDeadline p k f).divider = s.divider := rfl
@[simp] theorem State.modDeadline_deadlines (p : Port) (k : Prio) (f : DeadlineUnit → DeadlineUnit) :
    (s.modDeadline p k f).deadlines = s.deadlines.set p (s.deadlines[p].set k (f s.deadlines[p][k])) := rfl
@[simp] theorem State.modDeadline_warnings (p : Port) (k : Prio) (f : DeadlineUnit → DeadlineUnit) :
    (s.modDeadline p k f).warnings = s.warnings := rfl
@[simp] theorem State.modDeadline_slots (p : Port) (k : Prio) (f : DeadlineUnit → DeadlineUnit) :
    (s.modDeadline p k f).slots = s.slots := rfl
@[simp] theorem State.modDeadline_idMap (p : Port) (k : Prio) (f : DeadlineUnit → DeadlineUnit) :
    (s.modDeadline p k f).idMap = s.idMap := rfl
@[simp] theorem State.modDeadline_services (p : Port) (k : Prio) (f : DeadlineUnit → DeadlineUnit) :
    (s.modDeadline p k f).services = s.services := rfl
@[simp] theorem State.modDeadline_domains (p : Port) (k : Prio) (f : DeadlineUnit → DeadlineUnit) :
    (s.modDeadline p k f).domains = s.domains := rfl
@[simp] theorem State.modDeadline_pins (p : Port) (k : Prio) (f : DeadlineUnit → DeadlineUnit) :
    (s.modDeadline p k f).pins = s.pins := rfl
@[simp] theorem State.modDeadline_ports (p : Port) (k : Prio) (f : DeadlineUnit → DeadlineUnit) :
    (s.modDeadline p k f).ports = s.ports := rfl
@[simp] theorem State.modDeadline_lastServed (p : Port) (k : Prio) (f : DeadlineUnit → DeadlineUnit) :
    (s.modDeadline p k f).lastServed = s.lastServed := rfl
@[simp] theorem State.modDeadline_taking (p : Port) (k : Prio) (f : DeadlineUnit → DeadlineUnit) :
    (s.modDeadline p k f).taking = s.taking := rfl
@[simp] theorem State.modDeadline_samples (p : Port) (k : Prio) (f : DeadlineUnit → DeadlineUnit) :
    (s.modDeadline p k f).samples = s.samples := rfl

/-! ## modWarning -/

@[simp] theorem State.modWarning_pending (d : Dom) (f : WarningUnit → WarningUnit) :
    (s.modWarning d f).pending = s.pending := rfl
@[simp] theorem State.modWarning_rstLow (d : Dom) (f : WarningUnit → WarningUnit) :
    (s.modWarning d f).rstLow = s.rstLow := rfl
@[simp] theorem State.modWarning_divider (d : Dom) (f : WarningUnit → WarningUnit) :
    (s.modWarning d f).divider = s.divider := rfl
@[simp] theorem State.modWarning_deadlines (d : Dom) (f : WarningUnit → WarningUnit) :
    (s.modWarning d f).deadlines = s.deadlines := rfl
@[simp] theorem State.modWarning_warnings (d : Dom) (f : WarningUnit → WarningUnit) :
    (s.modWarning d f).warnings = s.warnings.set d (f s.warnings[d]) := rfl
@[simp] theorem State.modWarning_slots (d : Dom) (f : WarningUnit → WarningUnit) :
    (s.modWarning d f).slots = s.slots := rfl
@[simp] theorem State.modWarning_idMap (d : Dom) (f : WarningUnit → WarningUnit) :
    (s.modWarning d f).idMap = s.idMap := rfl
@[simp] theorem State.modWarning_services (d : Dom) (f : WarningUnit → WarningUnit) :
    (s.modWarning d f).services = s.services := rfl
@[simp] theorem State.modWarning_domains (d : Dom) (f : WarningUnit → WarningUnit) :
    (s.modWarning d f).domains = s.domains := rfl
@[simp] theorem State.modWarning_pins (d : Dom) (f : WarningUnit → WarningUnit) :
    (s.modWarning d f).pins = s.pins := rfl
@[simp] theorem State.modWarning_ports (d : Dom) (f : WarningUnit → WarningUnit) :
    (s.modWarning d f).ports = s.ports := rfl
@[simp] theorem State.modWarning_lastServed (d : Dom) (f : WarningUnit → WarningUnit) :
    (s.modWarning d f).lastServed = s.lastServed := rfl
@[simp] theorem State.modWarning_taking (d : Dom) (f : WarningUnit → WarningUnit) :
    (s.modWarning d f).taking = s.taking := rfl
@[simp] theorem State.modWarning_samples (d : Dom) (f : WarningUnit → WarningUnit) :
    (s.modWarning d f).samples = s.samples := rfl

/-! ## modRecord -/

@[simp] theorem State.modRecord_pending (i : SlotNo) (f : Record → Record) :
    (s.modRecord i f).pending = s.pending := rfl
@[simp] theorem State.modRecord_rstLow (i : SlotNo) (f : Record → Record) : (s.modRecord i f).rstLow = s.rstLow := rfl
@[simp] theorem State.modRecord_divider (i : SlotNo) (f : Record → Record) :
    (s.modRecord i f).divider = s.divider := rfl
@[simp] theorem State.modRecord_deadlines (i : SlotNo) (f : Record → Record) :
    (s.modRecord i f).deadlines = s.deadlines := rfl
@[simp] theorem State.modRecord_warnings (i : SlotNo) (f : Record → Record) :
    (s.modRecord i f).warnings = s.warnings := rfl
@[simp] theorem State.modRecord_slots (i : SlotNo) (f : Record → Record) :
    (s.modRecord i f).slots = s.slots.set i { s.slots[i] with record := s.slots[i].record.map f } := rfl
@[simp] theorem State.modRecord_idMap (i : SlotNo) (f : Record → Record) : (s.modRecord i f).idMap = s.idMap := rfl
@[simp] theorem State.modRecord_services (i : SlotNo) (f : Record → Record) :
    (s.modRecord i f).services = s.services := rfl
@[simp] theorem State.modRecord_domains (i : SlotNo) (f : Record → Record) :
    (s.modRecord i f).domains = s.domains := rfl
@[simp] theorem State.modRecord_pins (i : SlotNo) (f : Record → Record) : (s.modRecord i f).pins = s.pins := rfl
@[simp] theorem State.modRecord_ports (i : SlotNo) (f : Record → Record) : (s.modRecord i f).ports = s.ports := rfl
@[simp] theorem State.modRecord_lastServed (i : SlotNo) (f : Record → Record) :
    (s.modRecord i f).lastServed = s.lastServed := rfl
@[simp] theorem State.modRecord_taking (i : SlotNo) (f : Record → Record) : (s.modRecord i f).taking = s.taking := rfl
@[simp] theorem State.modRecord_samples (i : SlotNo) (f : Record → Record) :
    (s.modRecord i f).samples = s.samples := rfl

/-! ## owe -/

@[simp] theorem State.owe_pending (p : Port) : (s.owe p).pending = s.pending := rfl
@[simp] theorem State.owe_rstLow (p : Port) : (s.owe p).rstLow = s.rstLow := rfl
@[simp] theorem State.owe_divider (p : Port) : (s.owe p).divider = s.divider := rfl
@[simp] theorem State.owe_deadlines (p : Port) : (s.owe p).deadlines = s.deadlines := rfl
@[simp] theorem State.owe_warnings (p : Port) : (s.owe p).warnings = s.warnings := rfl
@[simp] theorem State.owe_slots (p : Port) : (s.owe p).slots = s.slots := rfl
@[simp] theorem State.owe_idMap (p : Port) : (s.owe p).idMap = s.idMap := rfl
@[simp] theorem State.owe_services (p : Port) : (s.owe p).services = s.services := rfl
@[simp] theorem State.owe_domains (p : Port) : (s.owe p).domains = s.domains := rfl
@[simp] theorem State.owe_pins (p : Port) : (s.owe p).pins = s.pins := rfl
@[simp] theorem State.owe_ports (p : Port) :
    (s.owe p).ports = s.ports.set p { s.ports[p] with inIndication := some false } := rfl
@[simp] theorem State.owe_lastServed (p : Port) : (s.owe p).lastServed = s.lastServed := rfl
@[simp] theorem State.owe_taking (p : Port) : (s.owe p).taking = s.taking := rfl
@[simp] theorem State.owe_samples (p : Port) : (s.owe p).samples = s.samples := rfl

/-! ## oweWhere -/

@[simp] theorem State.oweWhere_pending (f : Port → Bool) : (s.oweWhere f).pending = s.pending := rfl
@[simp] theorem State.oweWhere_rstLow (f : Port → Bool) : (s.oweWhere f).rstLow = s.rstLow := rfl
@[simp] theorem State.oweWhere_divider (f : Port → Bool) : (s.oweWhere f).divider = s.divider := rfl
@[simp] theorem State.oweWhere_deadlines (f : Port → Bool) : (s.oweWhere f).deadlines = s.deadlines := rfl
@[simp] theorem State.oweWhere_warnings (f : Port → Bool) : (s.oweWhere f).warnings = s.warnings := rfl
@[simp] theorem State.oweWhere_slots (f : Port → Bool) : (s.oweWhere f).slots = s.slots := rfl
@[simp] theorem State.oweWhere_idMap (f : Port → Bool) : (s.oweWhere f).idMap = s.idMap := rfl
@[simp] theorem State.oweWhere_services (f : Port → Bool) : (s.oweWhere f).services = s.services := rfl
@[simp] theorem State.oweWhere_domains (f : Port → Bool) : (s.oweWhere f).domains = s.domains := rfl
@[simp] theorem State.oweWhere_pins (f : Port → Bool) : (s.oweWhere f).pins = s.pins := rfl
@[simp] theorem State.oweWhere_ports (f : Port → Bool) :
    (s.oweWhere f).ports =
      Vector.ofFn fun p : Port => if f p = true then { s.ports[p] with inIndication := some false } else s.ports[p] := rfl
@[simp] theorem State.oweWhere_lastServed (f : Port → Bool) : (s.oweWhere f).lastServed = s.lastServed := rfl
@[simp] theorem State.oweWhere_taking (f : Port → Bool) : (s.oweWhere f).taking = s.taking := rfl
@[simp] theorem State.oweWhere_samples (f : Port → Bool) : (s.oweWhere f).samples = s.samples := rfl

/-! ## sendIndications -/

@[simp] theorem State.sendIndications_pending : s.sendIndications.pending = s.pending := rfl
@[simp] theorem State.sendIndications_rstLow : s.sendIndications.rstLow = s.rstLow := rfl
@[simp] theorem State.sendIndications_divider : s.sendIndications.divider = s.divider := rfl
@[simp] theorem State.sendIndications_deadlines : s.sendIndications.deadlines = s.deadlines := rfl
@[simp] theorem State.sendIndications_warnings : s.sendIndications.warnings = s.warnings := rfl
@[simp] theorem State.sendIndications_slots : s.sendIndications.slots = s.slots := rfl
@[simp] theorem State.sendIndications_idMap : s.sendIndications.idMap = s.idMap := rfl
@[simp] theorem State.sendIndications_services : s.sendIndications.services = s.services := rfl
@[simp] theorem State.sendIndications_domains : s.sendIndications.domains = s.domains := rfl
@[simp] theorem State.sendIndications_pins : s.sendIndications.pins = s.pins := rfl
@[simp] theorem State.sendIndications_ports :
    s.sendIndications.ports =
      Vector.ofFn fun p : Port => { s.ports[p] with inIndication := s.ports[p].inIndication.map fun _ => s.anyEligible p } := rfl
@[simp] theorem State.sendIndications_lastServed : s.sendIndications.lastServed = s.lastServed := rfl
@[simp] theorem State.sendIndications_taking : s.sendIndications.taking = s.taking := rfl
@[simp] theorem State.sendIndications_samples : s.sendIndications.samples = s.samples := rfl

/-! ## sendAnswer -/

@[simp] theorem State.sendAnswer_pending (p : Port) (a : Answer) : (s.sendAnswer p a).pending = s.pending := rfl
@[simp] theorem State.sendAnswer_rstLow (p : Port) (a : Answer) : (s.sendAnswer p a).rstLow = s.rstLow := rfl
@[simp] theorem State.sendAnswer_divider (p : Port) (a : Answer) : (s.sendAnswer p a).divider = s.divider := rfl
@[simp] theorem State.sendAnswer_deadlines (p : Port) (a : Answer) : (s.sendAnswer p a).deadlines = s.deadlines := rfl
@[simp] theorem State.sendAnswer_warnings (p : Port) (a : Answer) : (s.sendAnswer p a).warnings = s.warnings := rfl
@[simp] theorem State.sendAnswer_slots (p : Port) (a : Answer) : (s.sendAnswer p a).slots = s.slots := rfl
@[simp] theorem State.sendAnswer_idMap (p : Port) (a : Answer) : (s.sendAnswer p a).idMap = s.idMap := rfl
@[simp] theorem State.sendAnswer_services (p : Port) (a : Answer) : (s.sendAnswer p a).services = s.services := rfl
@[simp] theorem State.sendAnswer_domains (p : Port) (a : Answer) : (s.sendAnswer p a).domains = s.domains := rfl
@[simp] theorem State.sendAnswer_pins (p : Port) (a : Answer) : (s.sendAnswer p a).pins = s.pins := rfl
@[simp] theorem State.sendAnswer_ports (p : Port) (a : Answer) :
    (s.sendAnswer p a).ports = s.ports.set p { s.ports[p] with inAnswer := some a } := rfl
@[simp] theorem State.sendAnswer_lastServed (p : Port) (a : Answer) :
    (s.sendAnswer p a).lastServed = s.lastServed := rfl
@[simp] theorem State.sendAnswer_taking (p : Port) (a : Answer) : (s.sendAnswer p a).taking = s.taking := rfl
@[simp] theorem State.sendAnswer_samples (p : Port) (a : Answer) : (s.sendAnswer p a).samples = s.samples := rfl

/-! ## clearFlag, taken, engaged

A request chosen leaves its flag, or its port's submit queue; every other field stands. -/

@[simp] theorem State.clearFlag_pending (r : Taking) : (s.clearFlag r).pending = s.pending := by cases r <;> rfl
@[simp] theorem State.clearFlag_rstLow (r : Taking) : (s.clearFlag r).rstLow = s.rstLow := by cases r <;> rfl
@[simp] theorem State.clearFlag_divider (r : Taking) : (s.clearFlag r).divider = s.divider := by cases r <;> rfl
@[simp] theorem State.clearFlag_slots (r : Taking) : (s.clearFlag r).slots = s.slots := by cases r <;> rfl
@[simp] theorem State.clearFlag_idMap (r : Taking) : (s.clearFlag r).idMap = s.idMap := by cases r <;> rfl
@[simp] theorem State.clearFlag_services (r : Taking) : (s.clearFlag r).services = s.services := by cases r <;> rfl
@[simp] theorem State.clearFlag_domains (r : Taking) : (s.clearFlag r).domains = s.domains := by cases r <;> rfl
@[simp] theorem State.clearFlag_lastServed (r : Taking) : (s.clearFlag r).lastServed = s.lastServed := by cases r <;> rfl
@[simp] theorem State.clearFlag_samples (r : Taking) : (s.clearFlag r).samples = s.samples := by cases r <;> rfl
@[simp] theorem State.clearFlag_taking (r : Taking) : (s.clearFlag r).taking = s.taking := by cases r <;> rfl

@[simp] theorem State.taken_pending (r : Taking) : (s.taken r).pending = s.pending := by
  unfold State.taken; split <;> simp
@[simp] theorem State.taken_rstLow (r : Taking) : (s.taken r).rstLow = s.rstLow := by
  unfold State.taken; split <;> simp
@[simp] theorem State.taken_divider (r : Taking) : (s.taken r).divider = s.divider := by
  unfold State.taken; split <;> simp
@[simp] theorem State.taken_slots (r : Taking) : (s.taken r).slots = s.slots := by
  unfold State.taken; split <;> simp
@[simp] theorem State.taken_idMap (r : Taking) : (s.taken r).idMap = s.idMap := by
  unfold State.taken; split <;> simp
@[simp] theorem State.taken_services (r : Taking) : (s.taken r).services = s.services := by
  unfold State.taken; split <;> simp
@[simp] theorem State.taken_domains (r : Taking) : (s.taken r).domains = s.domains := by
  unfold State.taken; split <;> simp
@[simp] theorem State.taken_lastServed (r : Taking) : (s.taken r).lastServed = s.lastServed := by
  unfold State.taken; split <;> simp
@[simp] theorem State.taken_samples (r : Taking) : (s.taken r).samples = s.samples := by
  unfold State.taken; split <;> simp

/-- What is taken is no longer held as chosen. -/
@[simp] theorem State.taken_taking (r : Taking) : (s.taken r).taking = none := by
  unfold State.taken; split <;> simp_all

@[simp] theorem State.engaged_pending : s.engaged.pending = s.pending := by
  unfold State.engaged; split
  · rfl
  · split <;> simp
@[simp] theorem State.engaged_rstLow : s.engaged.rstLow = s.rstLow := by
  unfold State.engaged; split
  · rfl
  · split <;> simp
@[simp] theorem State.engaged_divider : s.engaged.divider = s.divider := by
  unfold State.engaged; split
  · rfl
  · split <;> simp
@[simp] theorem State.engaged_slots : s.engaged.slots = s.slots := by
  unfold State.engaged; split
  · rfl
  · split <;> simp
@[simp] theorem State.engaged_idMap : s.engaged.idMap = s.idMap := by
  unfold State.engaged; split
  · rfl
  · split <;> simp
@[simp] theorem State.engaged_services : s.engaged.services = s.services := by
  unfold State.engaged; split
  · rfl
  · split <;> simp
@[simp] theorem State.engaged_domains : s.engaged.domains = s.domains := by
  unfold State.engaged; split
  · rfl
  · split <;> simp
@[simp] theorem State.engaged_lastServed : s.engaged.lastServed = s.lastServed := by
  unfold State.engaged; split
  · rfl
  · split <;> simp
@[simp] theorem State.engaged_samples : s.engaged.samples = s.samples := by
  unfold State.engaged; split
  · rfl
  · split <;> simp

/-! ## Readings -/

theorem State.modPort_get (p q : Port) (f : PortState → PortState) :
    (s.modPort p f).ports[q] = if q = p then f s.ports[p] else s.ports[q] := by
  simp only [State.modPort_ports, Fin.getElem_fin, Vector.getElem_set, Fin.ext_iff, eq_comm]

theorem State.modPin_get (g h : Pin) (f : PinState → PinState) :
    (s.modPin g f).pins[h] = if h = g then f s.pins[g] else s.pins[h] := by
  simp only [State.modPin_pins, Fin.getElem_fin, Vector.getElem_set, Fin.ext_iff, eq_comm]

theorem State.modService_get (p q : Port) (f : Service → Service) :
    (s.modService p f).services[q] = if q = p then f s.services[p] else s.services[q] := by
  simp only [State.modService_services, Fin.getElem_fin, Vector.getElem_set, Fin.ext_iff, eq_comm]

theorem State.modDomain_get (d e : Dom) (f : DomainEntry → DomainEntry) :
    (s.modDomain d f).domains[e] = if e = d then f s.domains[d] else s.domains[e] := by
  simp only [State.modDomain_domains, Fin.getElem_fin, Vector.getElem_set, Fin.ext_iff, eq_comm]

theorem State.modWarning_get (d e : Dom) (f : WarningUnit → WarningUnit) :
    (s.modWarning d f).warnings[e] = if e = d then f s.warnings[d] else s.warnings[e] := by
  simp only [State.modWarning_warnings, Fin.getElem_fin, Vector.getElem_set, Fin.ext_iff, eq_comm]

theorem State.modRecord_get (i j : SlotNo) (f : Record → Record) :
    (s.modRecord i f).slots[j]
      = if j = i then { s.slots[i] with record := s.slots[i].record.map f } else s.slots[j] := by
  simp only [State.modRecord_slots, Fin.getElem_fin, Vector.getElem_set, Fin.ext_iff, eq_comm]

theorem State.modDeadline_get (p q : Port) (k j : Prio) (f : DeadlineUnit → DeadlineUnit) :
    (s.modDeadline p k f).deadlines[q][j]
      = if q = p ∧ j = k then f s.deadlines[p][k] else s.deadlines[q][j] := by
  by_cases h : q = p
  · subst h
    simp only [State.modDeadline_deadlines, Fin.getElem_fin, Vector.getElem_set, Fin.ext_iff, eq_comm, true_and, if_true]
  · have h' : p.val ≠ q.val := fun e => h (Fin.ext e.symm)
    simp [State.modDeadline_deadlines, h, h']

theorem State.oweWhere_get (f : Port → Bool) (q : Port) :
    (s.oweWhere f).ports[q] = if f q = true then { s.ports[q] with inIndication := some false } else s.ports[q] := by
  simp

theorem State.sendIndications_get (q : Port) :
    s.sendIndications.ports[q]
      = { s.ports[q] with inIndication := s.ports[q].inIndication.map fun _ => s.anyEligible q } := by
  simp

end Sys2Proof.Machine
end

