-- ==== Sys2Proof/Laws/Ops.lean ====
section
/-! SUPPORT. One lemma for each shared operation, saying all it can do: the change and the giving of a value, the altering of
a subscription, the freeing of a slot, the Id Map, the handle check, the taking of a frame, of an internal request and of a
command. The proofs about rows cite these in place of unfolding the operations. -/

namespace Sys2Proof.Machine

open Sys2Proof

variable (s : State)

/-! ## Indications -/

/-- With no indication owed, the end of a happening alters nothing. -/
theorem State.sendIndications_none (h : ∀ p : Port, s.ports[p].inIndication = none) : s.sendIndications = s := by
  have hp : s.sendIndications.ports = s.ports := by
    apply Vector.ext
    intro i hi
    have := h ⟨i, hi⟩
    simp only [Fin.getElem_fin] at this
    simp [this]
    rw [← this]
  cases s
  simp only [State.sendIndications] at hp ⊢
  rw [hp]

/-! ## The arbiter -/

/-- The engine takes something only when nothing holds it up (R143). -/
theorem State.choice_quiet {r : Taking} (h : s.choice = some r) : s.quiet = true := by
  unfold State.choice at h
  split at h
  · assumption
  · cases h

/-- When nothing holds the engine up, RST# is high, the latest tick is finished and every delivery has arrived (R143). -/
theorem State.quiet_spec (h : s.quiet = true) :
    s.rstLow = false ∧ s.tickUnfinished = false
      ∧ ∀ p : Port, s.ports[p].inAnswer = none ∧ s.ports[p].inIndication = none ∧ s.ports[p].inEvict = false := by
  simp only [State.quiet, Bool.and_eq_true, Bool.not_eq_true', List.all_eq_true] at h
  refine ⟨h.1.1, h.1.2, fun p => ?_⟩
  have := h.2 p (List.mem_finRange p)
  simp only [PortState.awaitsDelivery, Bool.or_eq_false_iff, Option.isSome_eq_false_iff, Option.isNone_iff_eq_none] at this
  exact ⟨this.1.1, this.1.2, this.2⟩

/-- A request held as chosen is what the engine takes as soon as nothing holds it up. -/
theorem State.choice_taking {r : Taking} (h : s.taking = some r) : s.choice = if s.quiet = true then some r else none := by
  simp only [State.choice, h]

/-- With no request held as chosen, the engine takes the arbiter's choice as soon as nothing holds it up. -/
theorem State.choice_next (h : s.taking = none) : s.choice = if s.quiet = true then s.nextRequest else none := by
  simp only [State.choice, h]

/-- What setting about a request leaves (R143, R144): the flag clear, or no request held as chosen. -/
theorem State.taken_spec (r : Taking) :
    s.taken r = if s.taking = none then s.clearFlag r else { s with taking := none } := by
  unfold State.taken
  cases s.taking <;> rfl

/-- What the fall of a tick leaves of the request that stands (assumption 19). -/
theorem State.engaged_spec :
    s.engaged =
      match s.taking, s.choice with
      | none, some r => { s.clearFlag r with taking := some r }
      | none, none => s
      | some _, _ => s := by
  unfold State.engaged
  cases s.taking <;> cases s.choice <;> rfl

/-- Setting about a request alters no delivery on its way. -/
theorem State.taken_deliveries (r : Taking) (q : Port) :
    (s.taken r).ports[q].inAnswer = s.ports[q].inAnswer ∧ (s.taken r).ports[q].inIndication = s.ports[q].inIndication
      ∧ (s.taken r).ports[q].inEvict = s.ports[q].inEvict := by
  rw [State.taken_spec]
  split
  · cases r <;> simp only [State.clearFlag, State.modPort_get, State.modDeadline_ports, State.modWarning_ports,
      State.modPin_ports] <;> (try split) <;> simp_all
  · exact ⟨rfl, rfl, rfl⟩

/-! ## Frames -/

/-- A listening port takes the frame; any other takes none (R125, R126). -/
theorem State.takeFrame_spec (p : Port) (f : PortState → PortState) :
    s.takeFrame p f
      = if s.rstLow = false ∧ s.ports[p].link ≠ .off then { s with ports := s.ports.set p (f s.ports[p]) } else s := by
  unfold State.takeFrame State.listening State.modPort
  by_cases h1 : s.rstLow = true <;> by_cases h2 : s.ports[p].link = .off <;> simp_all

/-! ## Internal requests -/

/-- A request that is not the engine's choice, or that the row does not name, waits. -/
theorem State.takeInternal_waits {pick : Taking → Option (State → State)} (h : ∀ r ∈ s.choice, pick r = none) :
    s.takeInternal pick = s := by
  unfold State.takeInternal
  split
  · rfl
  · next r hc => rw [h r hc]

/-- The request chosen, where the row names it, is taken: its own part happens and the owed indications are sent. -/
theorem State.takeInternal_takes {pick : Taking → Option (State → State)} {r : Taking} {act : State → State}
    (hc : s.choice = some r) (hp : pick r = some act) : s.takeInternal pick = (act (s.taken r)).sendIndications := by
  simp only [State.takeInternal, hc, hp]

/-! ## Commands -/

/-- A command of a port that is not the engine's choice waits. -/
theorem State.takeCommand_waits (p : Port) (act : Command → Option (State → Done))
    (h : ∀ q, s.choice ≠ some (.command p q)) : s.takeCommand p act = s := by
  unfold State.takeCommand
  split
  · next p' q hc =>
    rw [if_neg]
    rintro rfl
    exact h q hc
  · rfl
  · rfl

/-- A row that names another command than the one chosen does nothing. -/
theorem State.takeCommand_other {p : Port} {act : Command → Option (State → Done)} {tag : Byte} {c : Command}
    {rest : List Queued} (h : Takes s p tag c rest) (ha : act c = none) : s.takeCommand p act = s := by
  simp only [State.takeCommand, h.1, if_true, ha]

/-- The command chosen is taken: its own part happens, its answer and the owed indications are on their way. -/
theorem State.takeCommand_takes {p : Port} {act : Command → Option (State → Done)} {tag : Byte} {c : Command}
    {rest : List Queued} {f : State → Done} (h : Takes s p tag c rest) (ha : act c = some f) :
    s.takeCommand p act
      = ((f (s.serving p ⟨tag, c⟩)).state.sendAnswer p
          { tag := tag, code := c.opcode, status := (f (s.serving p ⟨tag, c⟩)).status
            fields := (f (s.serving p ⟨tag, c⟩)).fields }).sendIndications := by
  simp only [State.takeCommand, h.1, if_true, ha]

/-- Taking a command leaves its port's queue with the rest, its port the last served and no request chosen. -/
theorem State.serving_eq {p : Port} {tag : Byte} {c : Command} {rest : List Queued} (h : Takes s p tag c rest) :
    s.serving p ⟨tag, c⟩
      = { s with ports := s.ports.set p { s.ports[p] with submit := rest }, lastServed := p, taking := none } := by
  have h2 := h.2
  unfold State.serving
  rw [State.taken_spec]
  split at h2
  · next ht =>
    rw [if_pos ht]
    simp only [State.clearFlag, State.modPort, h2, List.tail_cons, ht]
  · next ht =>
    rw [if_neg ht]
    have : ({ s.ports[p] with submit := rest } : PortState) = s.ports[p] := by rw [← h2]
    rw [this]
    simp only [Fin.getElem_fin, Vector.set_getElem_self]

/-- A command whose own part alters nothing leaves just the answered state. -/
theorem State.takeCommand_idle {p : Port} {act : Command → Option (State → Done)} {tag : Byte} {c : Command}
    {rest : List Queued} {f : State → Done} (h : Takes s p tag c rest) (ha : act c = some f)
    (hf : (f (s.serving p ⟨tag, c⟩)).state = s.serving p ⟨tag, c⟩) :
    s.takeCommand p act
      = s.answered p rest
          { tag := tag, code := c.opcode, status := (f (s.serving p ⟨tag, c⟩)).status
            fields := (f (s.serving p ⟨tag, c⟩)).fields } := by
  rw [State.takeCommand_takes s h ha, hf]
  have hfree := (State.quiet_spec s (State.choice_quiet s h.1)).2.2
  have key : ∀ a : Answer, (s.serving p ⟨tag, c⟩).sendAnswer p a = s.answered p rest a := by
    intro a
    rw [State.serving_eq s h]
    simp [State.sendAnswer, State.modPort, State.answered]
  rw [key]
  apply State.sendIndications_none
  intro q
  have hq := (hfree q).2.1
  have hp := (hfree p).2.1
  simp only [Fin.getElem_fin] at hq hp
  simp only [State.answered, Fin.getElem_fin, Vector.getElem_set]
  split
  · exact hp
  · exact hq

/-! ## The handle check -/

/-- What R6 finds of a handle. -/
theorem State.checkHandle_spec (pass : Bool) (h : Handle) :
    s.checkHandle pass h
      = if hs : h.slot.toNat < 128 then
          match s.slots[h.slot.toNat].record with
          | none => .error .stale
          | some r =>
            if s.slots[h.slot.toNat].gen ≠ h.gen then .error .stale
            else if r.state = .draining ∧ pass = false then .error .draining
            else .ok (⟨h.slot.toNat, hs⟩, r)
        else .error .badParam := by
  unfold State.checkHandle slotOf
  by_cases hs : h.slot.toNat < 128
  · simp only [hs, dif_pos, Fin.getElem_fin] <;> rfl
  · simp only [hs, dif_neg, not_false_eq_true]

/-- A handle that names a LIVE record, or a DRAINING one where the command lets it pass, passes the check. -/
theorem State.checkHandle_names {pass : Bool} {h : Handle} {i : SlotNo} {r : Record} (hn : Names s h i r)
    (hl : r.state = .live ∨ pass = true) : s.checkHandle pass h = .ok (i, r) := by
  obtain ⟨h1, h2, h3⟩ := hn
  have hs : h.slot.toNat < 128 := h1 ▸ i.isLt
  have hi : (⟨h.slot.toNat, hs⟩ : SlotNo) = i := Fin.ext h1
  have : slotOf h.slot = some i := by simp [slotOf, hs, hi]
  unfold State.checkHandle
  rw [this]
  simp only [h3, h2, ne_eq, not_true_eq_false, if_false]
  rcases hl with hl | hl <;> simp [hl]

/-! ## Records -/

/-- A FREE slot has no change to make. -/
theorem State.change_free (i : SlotNo) (new : Byte) (amount : Nat) (h : s.slots[i].record = none) :
    s.change i new amount = s := by
  simp only [State.change, h]

/-- The drive of a pin is all that handing a value to the Pin Bridge can alter. -/
theorem State.drivePin_frame (i : SlotNo) (v : Byte) : s.drivePin i v = { s with pins := (s.drivePin i v).pins } := by
  unfold State.drivePin State.modPin
  split
  · rfl
  · split
    · rfl
    · split <;> rfl

/-- A change alters slots, pins and the indications at the ports, and nothing else (R28). -/
theorem State.change_frame (i : SlotNo) (new : Byte) (amount : Nat) :
    s.change i new amount
      = { s with slots := (s.change i new amount).slots, pins := (s.change i new amount).pins
                 ports := (s.change i new amount).ports } := by
  unfold State.change
  split
  · rfl
  · rw [State.drivePin_frame]
    rfl

/-- What a change leaves in the slots: the record with its new value, the next version and its subscriptions evaluated. -/
theorem State.change_slots (i : SlotNo) (new : Byte) (amount : Nat) (r : Record) (h : s.slots[i].record = some r) :
    (s.change i new amount).slots
      = s.slots.set i { s.slots[i] with
          record := some { r with
            value := new
            version := r.version + 1
            subs := Vector.ofFn fun p : Port =>
              (r.subs[p]).map fun u => u.afterChange (s.inService p i) r.value new amount } } := by
  simp only [State.change, h]
  rw [State.drivePin_frame]
  simp only [State.oweWhere_slots, State.modRecord_slots, h, Option.map_some]

/-- A record given the value it holds is left as it is (R27). -/
theorem State.setValue_same (i : SlotNo) (v : Byte) (h : s.valueAt i = v) : s.setValue i v = s := by
  unfold State.setValue
  unfold State.valueAt at h
  split
  · rfl
  · next r hr =>
    rw [hr] at h
    simp [h]

/-- A record given another value makes one change (R25). -/
theorem State.setValue_differs (i : SlotNo) (v : Byte) (h : s.valueAt i ≠ v) : s.setValue i v = s.change i v 0 := by
  unfold State.setValue
  unfold State.valueAt at h
  split
  · next hr => rw [State.change_free s i v 0 hr]
  · next r hr =>
    rw [hr] at h
    simp [h]

/-- What the altering of a subscription leaves: the slot, and an indication where the pending mark came or went (R58). -/
theorem State.updSub_spec (i : SlotNo) (p : Port) (f : Option Sub → Option Sub) (r : Record)
    (h : s.slots[i].record = some r) :
    s.updSub i p f
      = { s with
          slots := s.slots.set i { s.slots[i] with record := some { r with subs := r.subs.set p (f r.subs[p]) } }
          ports :=
            if isPending (f r.subs[p]) = isPending r.subs[p] then s.ports
            else s.ports.set p { s.ports[p] with inIndication := some false } } := by
  simp only [State.updSub, h]
  split <;> simp only [State.modRecord, State.owe, State.modPort, Option.map_some, *]

/-- What the freeing of a slot leaves: the generation, and the Id Map without the id (R3, R5). -/
theorem State.freeSlot_spec (i : SlotNo) (r : Record) (h : s.slots[i].record = some r) :
    s.freeSlot i
      = { s with slots := s.slots.set i { gen := s.slots[i].gen, record := none }
                 idMap := s.idMap.filter fun e => e.1 ≠ r.id } := by
  simp only [State.freeSlot, h, idErase]

/-! ## The Id Map -/

/-- The map after an insertion holds the new pair and what it held. -/
theorem mem_idInsert (id : Half) (i : SlotNo) (m : List (Half × SlotNo)) (e : Half × SlotNo) :
    e ∈ idInsert id i m ↔ e = (id, i) ∨ e ∈ m := by
  induction m with
  | nil => simp [idInsert]
  | cons a rest ih =>
    unfold idInsert
    split
    · simp
    · simp only [List.mem_cons, ih]
      tauto

/-- An insertion of an id that is not in the map keeps the ascending order. -/
theorem idInsert_sorted (id : Half) (i : SlotNo) (m : List (Half × SlotNo))
    (h : m.Pairwise fun a b => a.1.toNat < b.1.toNat) (hn : ∀ e ∈ m, e.1 ≠ id) :
    (idInsert id i m).Pairwise fun a b => a.1.toNat < b.1.toNat := by
  induction m with
  | nil => simp [idInsert]
  | cons a rest ih =>
    rw [List.pairwise_cons] at h
    unfold idInsert
    split
    · next hlt =>
      rw [List.pairwise_cons, List.pairwise_cons]
      refine ⟨fun e he => ?_, h⟩
      rcases List.mem_cons.mp he with rfl | he
      · exact hlt
      · exact Nat.lt_trans hlt (h.1 e he)
    · next hge =>
      rw [List.pairwise_cons]
      refine ⟨fun e he => ?_, ih h.2 fun e he => hn e (List.mem_cons_of_mem _ he)⟩
      rcases (mem_idInsert id i rest e).mp he with rfl | he
      · have hne : a.1 ≠ id := hn a (List.mem_cons_self ..)
        have : a.1.toNat ≠ id.toNat := fun e => hne (BitVec.eq_of_toNat_eq e)
        show a.1.toNat < id.toNat
        omega
      · exact h.1 e he

/-- A removal keeps the ascending order. -/
theorem idErase_sorted (id : Half) (m : List (Half × SlotNo)) (h : m.Pairwise fun a b => a.1.toNat < b.1.toNat) :
    (idErase id m).Pairwise fun a b => a.1.toNat < b.1.toNat := h.filter _

/-! ## Domains -/

/-- A departure of a port that is not awaited, or of a domain not in WARNING, does nothing (R100). -/
theorem State.depart_idle (d : Dom) (p : Port)
    (h : s.domains[d].state ≠ .warning ∨ s.domains[d].awaited[p] = false) : s.depart d p = s := by
  unfold State.depart
  rcases h with h | h
  · rw [if_neg fun hc => h hc.1]
  · rw [if_neg fun hc => by rw [h] at hc; exact Bool.noConfusion hc.2]

/-- A departure that is not the last takes the port out of the awaited set, and no more (R100). -/
theorem State.depart_other (d : Dom) (p : Port) (hw : s.domains[d].state = .warning)
    (ha : s.domains[d].awaited[p] = true)
    (ho : ({ s.domains[d] with awaited := s.domains[d].awaited.set p false } : DomainEntry).noneAwaited = false) :
    s.depart d p = s.modDomain d fun x => { x with awaited := x.awaited.set p false } := by
  unfold State.depart
  rw [if_pos ⟨hw, ha⟩]
  have hd : (s.modDomain d fun x => { x with awaited := x.awaited.set p false }).domains[d]
      = { s.domains[d] with awaited := s.domains[d].awaited.set p false } := by
    rw [State.modDomain_get, if_pos rfl]
  simp only [hd, ho]
  rfl

end Sys2Proof.Machine
end

