-- ==== Sys2Proof/Laws/PerInstr.lean ====
section
/-! SUPPORT. A statement made of each row: the bytes by which a master sends it fit the envelope of section 8.2. -/

namespace Sys2Proof.Laws

open Sys2Proof

/-- A well-formed frame row is sent by its code, its length, at most 40 body bytes and its CRC; any other row by no bytes. -/
def FrameFits.Statement (i : Instr) : Prop :=
  i.wf = true → ∀ bytes ∈ selectionBytes i, 3 ≤ bytes.length ∧ bytes.length ≤ 43

/-- A frame is three bytes longer than its body. -/
theorem frameBytes_length (code : Byte) (body : List Byte) : (frameBytes code body).length = body.length + 3 := by
  simp [frameBytes]

/-- A frame whose body fits the envelope is within the limits. -/
theorem frameFits_of_body {code : Byte} {body bytes : List Byte} (h : bodyFits body = true)
    (hb : bytes ∈ some (frameBytes code body)) : 3 ≤ bytes.length ∧ bytes.length ≤ 43 := by
  have hl : body.length ≤ 40 := of_decide_eq_true h
  simp only [Option.mem_def, Option.some.injEq] at hb
  rw [← hb, frameBytes_length]
  omega

theorem FrameFits.coldReset : FrameFits.Statement .coldReset := fun _ _ h => nomatch h
theorem FrameFits.resetRelease (board : Board) : FrameFits.Statement (.resetRelease board) := fun _ _ h => nomatch h
theorem FrameFits.tick (board : Board) : FrameFits.Statement (.tick board) := fun _ _ h => nomatch h
theorem FrameFits.filterAccept (g : Pin) : FrameFits.Statement (.filterAccept g) := fun _ _ h => nomatch h
theorem FrameFits.deadlineTimerRunOut (p : Port) (k : Prio) : FrameFits.Statement (.deadlineTimerRunOut p k) :=
  fun _ _ h => nomatch h
theorem FrameFits.warningTimerRunOut (d : Dom) : FrameFits.Statement (.warningTimerRunOut d) := fun _ _ h => nomatch h
theorem FrameFits.hello (p : Port) (body : List Byte) : FrameFits.Statement (.hello p body) :=
  fun h _ hb => frameFits_of_body h hb
theorem FrameFits.submit (p : Port) (body : List Byte) : FrameFits.Statement (.submit p body) :=
  fun h _ hb => frameFits_of_body h hb
theorem FrameFits.pull (p : Port) (body : List Byte) : FrameFits.Statement (.pull p body) :=
  fun h _ hb => frameFits_of_body h hb
theorem FrameFits.resetLink (p : Port) (body : List Byte) : FrameFits.Statement (.resetLink p body) :=
  fun h _ hb => frameFits_of_body h hb
theorem FrameFits.peek (p : Port) (body : List Byte) : FrameFits.Statement (.peek p body) :=
  fun h _ hb => frameFits_of_body h hb
theorem FrameFits.badFrame (p : Port) (form : BadForm) : FrameFits.Statement (.badFrame p form) :=
  fun _ _ h => nomatch h
theorem FrameFits.unknownKindFrame (p : Port) (kind : Byte) (body : List Byte) : FrameFits.Statement (.unknownKindFrame p kind body) :=
  fun h _ hb => frameFits_of_body (Bool.and_elim_left h) hb
theorem FrameFits.answerArrival (p : Port) : FrameFits.Statement (.answerArrival p) := fun _ _ h => nomatch h
theorem FrameFits.eligibleIndication (p : Port) : FrameFits.Statement (.eligibleIndication p) :=
  fun _ _ h => nomatch h
theorem FrameFits.evictRequest (p : Port) : FrameFits.Statement (.evictRequest p) := fun _ _ h => nomatch h
theorem FrameFits.teardownCompletion (p : Port) : FrameFits.Statement (.teardownCompletion p) :=
  fun _ _ h => nomatch h
theorem FrameFits.teardownRequest (p : Port) : FrameFits.Statement (.teardownRequest p) := fun _ _ h => nomatch h
theorem FrameFits.linkNotice (p : Port) : FrameFits.Statement (.linkNotice p) := fun _ _ h => nomatch h
theorem FrameFits.deadlineExpiryRequest (p : Port) (k : Prio) : FrameFits.Statement (.deadlineExpiryRequest p k) :=
  fun _ _ h => nomatch h
theorem FrameFits.warningExpiryRequest (d : Dom) : FrameFits.Statement (.warningExpiryRequest d) :=
  fun _ _ h => nomatch h
theorem FrameFits.pinUpdateRequest (g : Pin) : FrameFits.Statement (.pinUpdateRequest g) := fun _ _ h => nomatch h
theorem FrameFits.declare (p : Port) : FrameFits.Statement (.declare p) := fun _ _ h => nomatch h
theorem FrameFits.retire (p : Port) : FrameFits.Statement (.retire p) := fun _ _ h => nomatch h
theorem FrameFits.claim (p : Port) : FrameFits.Statement (.claim p) := fun _ _ h => nomatch h
theorem FrameFits.lookup (p : Port) : FrameFits.Statement (.lookup p) := fun _ _ h => nomatch h
theorem FrameFits.lock (p : Port) : FrameFits.Statement (.lock p) := fun _ _ h => nomatch h
theorem FrameFits.set (p : Port) : FrameFits.Statement (.set p) := fun _ _ h => nomatch h
theorem FrameFits.setIf (p : Port) : FrameFits.Statement (.setIf p) := fun _ _ h => nomatch h
theorem FrameFits.raise (p : Port) : FrameFits.Statement (.raise p) := fun _ _ h => nomatch h
theorem FrameFits.read (p : Port) : FrameFits.Statement (.read p) := fun _ _ h => nomatch h
theorem FrameFits.readGroup (p : Port) : FrameFits.Statement (.readGroup p) := fun _ _ h => nomatch h
theorem FrameFits.subscribe (p : Port) : FrameFits.Statement (.subscribe p) := fun _ _ h => nomatch h
theorem FrameFits.unsubscribe (p : Port) : FrameFits.Statement (.unsubscribe p) := fun _ _ h => nomatch h
theorem FrameFits.acquire (p : Port) : FrameFits.Statement (.acquire p) := fun _ _ h => nomatch h
theorem FrameFits.release (p : Port) : FrameFits.Statement (.release p) := fun _ _ h => nomatch h
theorem FrameFits.releaseTop (p : Port) : FrameFits.Statement (.releaseTop p) := fun _ _ h => nomatch h
theorem FrameFits.threshold (p : Port) : FrameFits.Statement (.threshold p) := fun _ _ h => nomatch h
theorem FrameFits.serviceList (p : Port) : FrameFits.Statement (.serviceList p) := fun _ _ h => nomatch h
theorem FrameFits.domainReset (p : Port) : FrameFits.Statement (.domainReset p) := fun _ _ h => nomatch h
theorem FrameFits.domainRelease (p : Port) : FrameFits.Statement (.domainRelease p) := fun _ _ h => nomatch h
theorem FrameFits.bindPin (p : Port) (found : Option Level) : FrameFits.Statement (.bindPin p found) :=
  fun _ _ h => nomatch h
theorem FrameFits.unbindPin (p : Port) : FrameFits.Statement (.unbindPin p) := fun _ _ h => nomatch h
theorem FrameFits.pinQuery (p : Port) : FrameFits.Statement (.pinQuery p) := fun _ _ h => nomatch h
theorem FrameFits.evict (p : Port) : FrameFits.Statement (.evict p) := fun _ _ h => nomatch h
theorem FrameFits.refclkRisingEdge : FrameFits.Statement .refclkRisingEdge := fun _ _ h => nomatch h

end Sys2Proof.Laws
end

