-- ==== Sys2Proof/Tests/Slice0.lean ====
section
/-! SUPPORT. Tests of the model on small states: the wire (with the manual's own check values and its example of one SUBMIT
and its ANSWER), each row once or twice, the checks of WellFormed, and for each statement put to the provers that has
hypotheses a state and operands that meet them, clause by clause. -/

namespace Sys2Proof.Tests

open Sys2Proof Sys2Proof.Machine

set_option Elab.async false

/-! ## The wire (sections 8.2, 11.1 to 11.4) -/

/-- Table 11-2. -/
theorem test_crc_of_hello : frameBytes 0xC1#8 [] = [0xC1#8, 0x00#8, 0x2F#8] := by decide +kernel

/-- Table 11-2. -/
theorem test_crc_of_peek : frameBytes 0xC5#8 [] = [0xC5#8, 0x00#8, 0x7B#8] := by decide +kernel

/-- Section 11.4.1: SET((33, 2), 1) with tag 21. -/
theorem test_submit_example :
    encodeSubmit 21#8 (.set ⟨33#8, 2#8⟩ 1#8) = [0x15#8, 0x21#8, 0x21#8, 0x02#8, 0x01#8]
      ∧ decodeSubmit [0x15#8, 0x21#8, 0x21#8, 0x02#8, 0x01#8] = some (21#8, .set ⟨33#8, 2#8⟩ 1#8) := by decide

/-- Table 11-6: SET_IF carries its version most significant byte first. -/
theorem test_version_order :
    decodeSubmit [0#8, 0x22#8, 0x14#8, 0x01#8, 0x12#8, 0x34#8, 0x05#8]
      = some (0#8, .setIf ⟨20#8, 1#8⟩ 0x1234#16 5#8) := by decide

/-- R132 and R162: a body that is too short, that has a byte too many, or that names no command is no command. -/
theorem test_ill_formed_submits :
    decodeSubmit [0#8] = none ∧ decodeSubmit [0#8, 0x41#8, 0#8] = none ∧ decodeSubmit [0#8, 0x46#8] = none
      ∧ decodeSubmit [0#8, 0x25#8, 2#8, 20#8, 1#8] = none := by decide

/-- The envelope: the longest body that is taken, one byte too many announced, a CRC byte missing, a wrong CRC, an unknown
kind, and bytes after the CRC byte, which are ignored (R127, R128). -/
theorem test_envelope :
    decodeSelection 0 [0xC1#8, 0x00#8, 0x2F#8, 0xAA#8] = .hello 0 []
      ∧ decodeSelection 0 [0xC2#8, 0x29#8] = .badFrame 0 .overLong
      ∧ decodeSelection 0 [0xC1#8, 0x00#8] = .badFrame 0 .cutShort
      ∧ decodeSelection 0 [] = .badFrame 0 .cutShort
      ∧ decodeSelection 0 [0xC1#8, 0x00#8, 0x2E#8] = .badFrame 0 .badCrc
      ∧ decodeSelection 0 (frameBytes 0xC6#8 []) = .unknownKindFrame 0 0xC6#8 []
      ∧ decodeSelection 0 (frameBytes 0xC2#8 (List.replicate 40 0#8)) = .submit 0 (List.replicate 40 0#8) := by
  decide +kernel

/-- The opcode table gives no row any bits: no word spells a command, and the queue stays as it is. -/
theorem test_no_word_spells_a_command :
    decodeTableWord 8 0 = none ∧ (State.reset.withFetchWord 8 0).pending = [] := ⟨rfl, rfl⟩

/-! ## WellFormed -/

/-- Each check refuses a term: a body of 41 bytes in each known frame and in one of unknown kind, and a known kind byte in a
frame of unknown kind. A body of 40 bytes passes. -/
theorem test_wf_refuses :
    (Instr.hello 0 (List.replicate 41 0#8)).wf = false ∧ (Instr.submit 0 (List.replicate 41 0#8)).wf = false
      ∧ (Instr.pull 0 (List.replicate 41 0#8)).wf = false ∧ (Instr.resetLink 0 (List.replicate 41 0#8)).wf = false
      ∧ (Instr.peek 0 (List.replicate 41 0#8)).wf = false
      ∧ (Instr.unknownKindFrame 0 0xC6#8 (List.replicate 41 0#8)).wf = false
      ∧ (Instr.unknownKindFrame 0 0xC5#8 []).wf = false
      ∧ (Instr.unknownKindFrame 0 0xC6#8 []).wf = true ∧ (Instr.submit 0 (List.replicate 40 0#8)).wf = true := by
  decide

/-! ## Small states -/

/-- The part right after reset release: LP0 to LP5 enabled, LP0 CONTROL and the others MEMBER. -/
def base : State := State.reset.released fun g => if g.val ≤ 6 then .high else .low

/-- A LIVE LEVEL record with default 0 in no domain. -/
def lvl (id : Half) (owner : Owner) (value : Byte) : Record :=
  { state := .live, id := id, kind := .level, value := value, version := 0#16, dflt := some 0#8, domain := none,
    owner := owner, policy := some .retain, locked := false, subs := Vector.replicate 6 none }

/-- A LIVE EVENT record in no domain. -/
def evt (id : Half) (owner : Owner) : Record := { lvl id owner 0#8 with kind := .event, dflt := none }

/-- An idle LATCHED subscription to every change. -/
def plain (k : Prio) : Sub :=
  { priority := k, cond := .any, mode := .latched, cls := 0, keep := false, guard := false, mark := none }

/-- The record with a subscription of port p. -/
def withSub (p : Port) (u : Sub) (r : Record) : Record := { r with subs := r.subs.set p (some u) }

/-- The record put in slot i with generation 1, its id in the Id Map. -/
def put (s : State) (i : SlotNo) (r : Record) : State :=
  { s with slots := s.slots.set i { gen := 1#8, record := some r }, idMap := idInsert r.id i s.idMap }

/-- Port p is OPEN and the command c waits in its queue with tag 77H. -/
def ask (s : State) (p : Port) (c : Command) : State :=
  s.modPort p fun q => { q with link := .opened, submit := [{ tag := 0x77#8, command := c }] }

/-- The handle of generation 1 of slot i. -/
def hd (i : SlotNo) : Handle := ⟨BitVec.ofNat 8 i.val, 1#8⟩

/-- The state a row leaves. -/
def after (c : Instr) (s : State) : State :=
  match exec c s with
  | .next t => t
  | .fault _ => s
  | .refused _ => s

/-- Status and fields of the answer on its way to p. -/
def answer (s : State) (p : Port) : Option (Status × List Byte) := s.ports[p].inAnswer.map fun a => (a.status, a.fields)

/-- LP1's LEVEL record 100H in slot 20 with value 5. -/
def mine : Record := lvl 0x100#16 (.port 1) 5#8

/-- LP1's EVENT record 100H in slot 20. -/
def count : Record := evt 0x100#16 (.port 1)

/-- The system record of slot 19, DOMAIN of D7. -/
def sys : Record := systemRecord 0xFF27#16 0#8

/-- A part with much in it. LP1 serves 20 (priority 3, token 1, deadline running) and the DRAINING 22 (priority 1, token 2,
OVERDUE); LP2 has a pending HELD subscription on 20 and awaits the warning of D1 under GUARD; LP1 holds GUARD on D3; D2 is
HELD; GP0 is INPUT-bound to 23 and GP1 OUTPUT-bound to the locked 24. -/
def busy : State :=
  let s := put base 20 (withSub 2 { plain 2 with cond := .rise, mode := .held, mark := some { count := 1, snap := 5#8 } }
    (withSub 1 { plain 3 with cls := 2, keep := true } mine))
  let s := put s 21
    (withSub 2 { plain 2 with cond := .each, mark := some { count := 15, snap := 0#8 } } (evt 0x101#16 (.port 1)))
  let s := put s 22 { withSub 1 (plain 1) (lvl 0x102#16 (.port 1) 1#8) with state := .draining }
  let s := put s 23 { lvl 0x103#16 (.pin 0) 1#8 with domain := some 0 }
  let s := put s 24 { lvl 0x104#16 .nobody 0#8 with locked := true }
  let s := put s 25 { lvl 0x105#16 (.port 1) 7#8 with domain := some 1, policy := some .toDefault }
  let s := put s 26 { lvl 0x106#16 (.port 1) 0#8 with domain := some 2, policy := some .retire }
  let s := s.modRecord 7 fun r => { r with value := 1#8, version := 1#16 }
  let s := s.modRecord 13 fun r =>
    withSub 2 { plain 0 with guard := true } { r with value := 1#8, version := 1#16 }
  let s := s.modRecord 14 fun r => { r with value := 2#8, version := 1#16 }
  let s := s.modRecord 15 fun r => withSub 1 { plain 0 with guard := true } r
  let s := s.modDomain 1 fun x =>
    { x with state := .warning, awaited := x.awaited.set 2 true, serial := 1#8, timeout := 1#8 }
  let s := s.modDomain 2 fun x => { x with state := .held }
  let s := s.modWarning 1 fun u => { u with timer := some { serial := 1#8, remaining := 16 } }
  let s := s.modDeadline 1 3 fun u => { u with timer := some { slot := 20, token := 1#8, remaining := 16 } }
  let s := s.modService 1 fun v =>
    { v with list := [⟨20, 1#8, false⟩, ⟨22, 2#8, true⟩], tokenCounter := 2#8 }
  let s := s.modPin 0 fun x =>
    { x with raw := .high, input := some { accepted := .high, count := 0, due := false }, serialCounter := 1#8
             binding := some { slot := 23, dir := .input 2, active := .high, serial := 1#8 } }
  s.modPin 1 fun x =>
    { x with driver := .driving .high, serialCounter := 1#8
             binding := some { slot := 24, dir := .output, active := .low, serial := 1#8 } }

/-- A part with no FREE slot and 192 subscriptions: every user slot holds a record, the first 32 of them with six
subscriptions each. -/
def full : State :=
  { base with
    slots := Vector.ofFn fun i : SlotNo =>
      if 20 ≤ i.val then
        { gen := 1#8
          record := some { lvl (BitVec.ofNat 16 i.val) (.port 1) 5#8 with
            subs := if i.val < 52 then Vector.replicate 6 (some (plain 3)) else Vector.replicate 6 none } }
      else base.slots[i]
    idMap := ((List.finRange 128).filter fun i => 20 ≤ i.val).map (fun i => (BitVec.ofNat 16 i.val, i)) ++ base.idMap }

/-! ## Rows: reset and time -/

/-- R11: a slot loses its record and its generation. -/
theorem test_cold_reset : (after .coldReset busy).slots[(20 : SlotNo)] = { gen := 0#8, record := none } := by
  decide +kernel

/-- Tables 1-8 and 7-2: GP0 HIGH and GP6 HIGH make LP0 enabled and CONTROL with LINK 0; GP5 LOW makes LP5 OFF with LINK 3. -/
theorem test_reset_release :
    let t := after (.resetRelease (Vector.ofFn fun g : Fin 16 => some (if g.val = 0 ∨ g.val = 6 then .high else .low))) State.reset
    (t.ports[(0 : Port)].link, t.ports[(0 : Port)].cls, t.valueAt 0) = (.closed, .control, 0#8)
      ∧ (t.ports[(5 : Port)].link, t.valueAt 5, t.slots[(5 : SlotNo)].gen) = (.off, 3#8, 1#8) := by decide +kernel

/-- R81: 30 is followed by 31. -/
theorem test_refclk : (after .refclkRisingEdge { base with divider := 30 }).divider = 31 := by decide +kernel

/-- R81, R85, Table 7-3: at the tick the divider is 0, a timer at 16 stands at 15, and a differing sample counts. -/
theorem test_tick :
    let t := after (.tick (Vector.replicate 16 (some .low))) { busy with divider := 31 }
    t.divider = 0 ∧ t.deadlines[(1 : Port)][(3 : Prio)].timer = some { slot := 20, token := 1#8, remaining := 15 }
      ∧ t.pins[(0 : Pin)].input = some { accepted := .high, count := 1, due := false } := by decide +kernel

/-- R143 and R145: the RELEASE that stands before the free engine when the tick falls is held as chosen, out of its queue, while
its entry's timer comes to 0 (assumption 19). -/
theorem test_tick_finds_a_choice :
    let s := (ask busy 1 (.release (hd 20))).modDeadline 1 3 fun u =>
      { u with timer := some { slot := 20, token := 1#8, remaining := 1 } }
    let t := after (.tick (Vector.replicate 16 (some .high))) { s with divider := 31 }
    t.taking = some (.command 1 { tag := 0x77#8, command := .release (hd 20) }) ∧ t.ports[(1 : Port)].submit = []
      ∧ t.choice = none ∧ t.deadlines[(1 : Port)][(3 : Prio)].runOutDue = true := by decide +kernel

/-- R117 and R118: the acceptance takes the raw level and raises the flag with the serial of the binding. -/
theorem test_filter_accept :
    let t := after (.filterAccept 0)
      (busy.modPin 0 fun x => { x with raw := .low, input := some { accepted := .high, count := 2, due := true } })
    t.pins[(0 : Pin)].input = some { accepted := .low, count := 0, due := false } ∧ t.pins[(0 : Pin)].flag = some 1#8 := by
  decide +kernel

/-- The busy part with LP1's deadline timer and D1's warning timer at 0. -/
def ranOut : State :=
  (busy.modDeadline 1 3 fun _ => { timer := some { slot := 20, token := 1#8, remaining := 0 }, flag := none }).modWarning 1
    fun _ => { timer := some { serial := 1#8, remaining := 0 }, flag := none }

/-- R85. -/
theorem test_deadline_run_out :
    (after (.deadlineTimerRunOut 1 3) ranOut).deadlines[(1 : Port)][(3 : Prio)]
      = { timer := none, flag := some { slot := 20, token := 1#8 } } := by decide +kernel

/-- R91. -/
theorem test_warning_run_out :
    (after (.warningTimerRunOut 1) ranOut).warnings[(1 : Dom)] = { timer := none, flag := some 1#8 } := by decide +kernel

/-! ## Rows: frames and deliveries -/

/-- LP0 in this link state. -/
def linked (l : LinkState) : State := base.modPort 0 fun q => { q with link := l }

/-- R131: CLOSED passes to OPEN and the reply names the class. -/
theorem test_hello :
    let q := (after (.hello 0 []) base).ports[(0 : Port)]
    (q.link, q.notice, q.reply) = (.opened, some .opened, some (frameBytes 0x87#8 [0x01#8])) := by decide +kernel

/-- Section 11.4.1: the SET joins the queue and 3 slots are left. -/
theorem test_submit :
    let q := (after (.submit 0 [0x15#8, 0x21#8, 0x21#8, 0x02#8, 0x01#8]) (linked .opened)).ports[(0 : Port)]
    q.submit = [{ tag := 21#8, command := .set ⟨33#8, 2#8⟩ 1#8 }] ∧ q.reply = some (frameBytes 0x81#8 [0x03#8]) := by
  decide +kernel

/-- Section 11.4.1: the ANSWER of the SET as sequence 6, with 2 answers queued. -/
theorem test_pull :
    let a : Answer := { tag := 21#8, code := .set, status := .ok, fields := halfBytes 22#16 }
    let s := (linked .opened).modPort 0 fun q => { q with answers := [a, a], nextSeq := 6#4 }
    (after (.pull 0 [0xFF#8]) s).ports[(0 : Port)].reply
      = some (frameBytes 0x89#8 [0x06#8, 0x00#8, 0x02#8, 0x15#8, 0x21#8, 0x00#8, 0x00#8, 0x16#8]) := by decide +kernel

/-- R136: OPEN is left with cause RESET and the waiting command is dropped. -/
theorem test_reset_link :
    let q := (after (.resetLink 0 []) (ask base 0 .acquire)).ports[(0 : Port)]
    (q.link, q.submit, q.teardown, q.reply) = (.closing .reset, [], true, some (frameBytes 0x88#8 [0x04#8])) := by
  decide +kernel

/-- R137: the count reported is the one before the frame. -/
theorem test_peek :
    let q := (after (.peek 0 []) (base.modPort 0 fun q => { q with badCount := 2 })).ports[(0 : Port)]
    q.reply = some (frameBytes 0x8B#8 [0#8, 0#8, 1#8, 2#8, 0#8, 0#8]) ∧ q.badCount = 0 := by decide +kernel

/-- R129: the step from 3 to 4 takes a CLOSED port to FAULTED. -/
theorem test_bad_frame :
    let q := (after (.badFrame 0 .cutShort) (base.modPort 0 fun q => { q with badCount := 3 })).ports[(0 : Port)]
    (q.link, q.badCount, q.notice, q.reply) = (.faulted, 4, some .faulted, none) := by decide +kernel

/-- R128. -/
theorem test_unknown_kind :
    let q := (after (.unknownKindFrame 0 0xC6#8 []) (base.modPort 0 fun q => { q with badCount := 3 })).ports[(0 : Port)]
    (q.badCount, q.reply) = (0, some (frameBytes 0x86#8 [])) := by decide +kernel

/-- An answer with no fields. -/
def blank : Answer := { tag := 0#8, code := .acquire, status := .none, fields := [] }

/-- R134: queued in OPEN, discarded in CLOSED. -/
theorem test_answer_arrival :
    let s (l : LinkState) := (linked l).modPort 0 fun q => { q with inAnswer := some blank }
    (after (.answerArrival 0) (s .opened)).ports[(0 : Port)].answers = [blank]
      ∧ (after (.answerArrival 0) (s .closed)).ports[(0 : Port)].answers = [] := by decide +kernel

/-- R141: the indication is held in CLOSED as well, and ATTN# is not asserted there. -/
theorem test_eligible_indication :
    let t := after (.eligibleIndication 0) (base.modPort 0 fun q => { q with inIndication := some true })
    t.ports[(0 : Port)].eligible = true ∧ t.attn 0 = false := by decide +kernel

/-- R139. -/
theorem test_evict_request :
    (after (.evictRequest 0) ((linked .opened).modPort 0 fun q => { q with inEvict := true })).ports[(0 : Port)].link
      = .closing .evict := by decide +kernel

/-- R140: cause FAULT ends in FAULTED, cause EVICT in CLOSED. -/
theorem test_teardown_completion :
    let s (c : Cause) := (linked (.closing c)).modPort 0 fun q => { q with inCompletion := true }
    (after (.teardownCompletion 0) (s .fault)).ports[(0 : Port)].link = .faulted
      ∧ (after (.teardownCompletion 0) (s .evict)).ports[(0 : Port)].link = .closed := by decide +kernel

/-! ## Rows: internal requests -/

/-- The part with the state of port p altered and the queue of waiting steps l. -/
def ported (s : State) (p : Port) (f : PortState → PortState) (l : List Instr) : State :=
  { s.modPort p f with pending := l }

/-- The busy part with LP1 CLOSING for cause FAULT and its teardown raised. -/
def closing : State := ported busy 1 (fun q => { q with link := .closing .fault, teardown := true }) []

/-- R152, R156, R158: LP1's list is empty, the DRAINING 22 is FREE, the RETIRE record 26 is FREE, 25 is owned by NONE at its
default, OVERDUE is 0 and LINK 2. -/
theorem test_teardown :
    let t := after (.teardownRequest 1) closing
    t.services[(1 : Port)].list = [] ∧ t.slots[(22 : SlotNo)].record = none ∧ t.slots[(26 : SlotNo)].record = none
      ∧ (t.valueAt 25, t.versionAt 25, t.slots[(25 : SlotNo)].record.map (·.owner)) = (0#8, 1#16, some .nobody)
      ∧ (t.valueAt 7, t.valueAt 1) = (0#8, 2#8) := by decide +kernel

/-- What a teardown of LP1 meets, beside the busy part. In LP1's own records: 27 locked; 28 RETIRE, OUTPUT-bound to GP2, in
service of LP2; 29 an EVENT under DEFAULT; 30 under DEFAULT, OUTPUT-bound to GP3, with LP1's KEEP HELD FALL; 33 DRAINING, in
service of LP2. Elsewhere: LP1's KEEP HELD RISE on 31 and its LATCHED one without KEEP on 32, a record of D3. D3's warning
awaits LP1 alone, D4's LP1 and LP2. -/
def leaving : State :=
  let keepHeld (c : Cond) : Sub := { plain 5 with cond := c, mode := .held, keep := true }
  let guard : Sub := { plain 0 with guard := true }
  let s := put busy 27 { lvl 0x107#16 (.port 1) 3#8 with locked := true, policy := some .toDefault }
  let s := put s 28 (withSub 2 (plain 4) { lvl 0x108#16 (.port 1) 4#8 with policy := some .retire })
  let s := put s 29 { evt 0x109#16 (.port 1) with value := 6#8, policy := some .toDefault }
  let s := put s 30 (withSub 1 (keepHeld .fall) { lvl 0x10A#16 (.port 1) 5#8 with policy := some .toDefault })
  let s := put s 31 (withSub 1 (keepHeld .rise) (lvl 0x10B#16 (.port 2) 1#8))
  let s := put s 32 (withSub 1 (plain 6) { lvl 0x10C#16 (.port 2) 9#8 with domain := some 3 })
  let s := put s 33 { withSub 2 (plain 2) (lvl 0x10D#16 (.port 1) 1#8) with state := .draining }
  let s := s.modService 2 fun v => { v with list := [⟨28, 1#8, false⟩, ⟨33, 2#8, false⟩], tokenCounter := 2#8 }
  let s := s.modRecord 15 fun r => { r with value := 1#8, version := 1#16 }
  let s := s.modRecord 16 fun r => withSub 2 guard (withSub 1 guard { r with value := 1#8, version := 1#16 })
  let s := s.modDomain 3 fun x => { x with state := .warning, awaited := x.awaited.set 1 true }
  let s := s.modDomain 4 fun x => { x with state := .warning, awaited := (x.awaited.set 1 true).set 2 true }
  let bind (i : SlotNo) : Option Binding := some { slot := i, dir := .output, active := .high, serial := 1#8 }
  let s := s.modPin 2 fun x => { x with driver := .driving .high, serialCounter := 1#8, binding := bind 28 }
  let s := s.modPin 3 fun x => { x with driver := .driving .high, serialCounter := 1#8, binding := bind 30 }
  s.modPort 1 fun q => { q with link := .closing .evict, teardown := true }

/-- State, owner, value and version of the record in slot i. -/
def standing (s : State) (i : SlotNo) : Option (RecState × Owner × Byte × Half) :=
  s.slots[i].record.map fun r => (r.state, r.owner, r.value, r.version)

/-- Table 10-2 and R153 to R157: locked and DRAINING records stay LP1's; EVENT under DEFAULT keeps value and version, LEVEL
makes one change, seen by the KEEP subscription and the pin; KEEP HELD is evaluated; D3 is swept, D4 awaits LP2. -/
theorem test_teardown_policies :
    let t := after (.teardownRequest 1) leaving
    [(27 : SlotNo), 28, 29, 30, 32, 33].map (standing t)
        = [some (.live, .port 1, 3#8, 0#16), some (.draining, .port 1, 4#8, 0#16), some (.live, .nobody, 6#8, 0#16),
           some (.live, .nobody, 0#8, 1#16), some (.live, .port 2, 0#8, 1#16), some (.draining, .port 1, 1#8, 0#16)]
      ∧ isPending (t.subAt 30 1) = true ∧ (t.subAt 31 1).bind (·.mark) = some { count := 1, snap := 1#8 }
      ∧ t.subAt 32 1 = none ∧ t.pins[(2 : Pin)].driver = .highZ ∧ t.pins[(3 : Pin)].driver = .driving .low
      ∧ t.domains[(3 : Dom)].state = .held ∧ t.domains[(4 : Dom)].awaited.toList = [false, false, true, false, false, false] := by
  decide +kernel

/-- R138: the LINK record takes 1, one version on. -/
theorem test_link_notice :
    let t := after (.linkNotice 3) (base.modPort 3 fun q => { q with notice := some .opened })
    (t.valueAt 3, t.versionAt 3, t.ports[(3 : Port)].notice) = (1#8, 1#16, none) := by decide +kernel

/-- The busy part with the deadline of LP1's entry on 20 and the warning of D1 expired, and the pin update of GP0 raised. -/
def expired : State :=
  ((busy.modDeadline 1 3 fun _ => { timer := none, flag := some { slot := 20, token := 1#8 } }).modWarning 1
    fun _ => { timer := none, flag := some 1#8 })

/-- R87: the entry is marked in its place and OVERDUE goes from 1 to 2. -/
theorem test_deadline_expiry :
    let t := after (.deadlineExpiryRequest 1 3) expired
    t.services[(1 : Port)].list = [⟨20, 1#8, true⟩, ⟨22, 2#8, true⟩] ∧ t.valueAt 7 = 2#8 := by decide +kernel

/-- The expiry of D1's warning alone. -/
def warned : State := busy.modWarning 1 fun _ => { timer := none, flag := some 1#8 }

/-- R101, R102: D1 is swept and HELD. -/
theorem test_warning_expiry :
    let t := after (.warningExpiryRequest 1) warned
    (t.domains[(1 : Dom)].state, t.valueAt 25, t.valueAt 13) = (.held, 0#8, 2#8) := by decide +kernel

/-- The busy part with GP0 accepted LOW and its update raised. -/
def updated : State :=
  busy.modPin 0 fun x => { x with input := some { accepted := .low, count := 0, due := false }, flag := some 1#8 }

/-- R119: the inactive level gives 0. -/
theorem test_pin_update :
    let t := after (.pinUpdateRequest 0) updated
    (t.valueAt 23, t.versionAt 23, t.pins[(0 : Pin)].flag) = (0#8, 1#16, none) := by decide +kernel

/-! ## Rows: port commands -/

/-- R12, R13: the lowest FREE user slot, 27, with generation 1. -/
theorem test_declare :
    answer (after (.declare 1) (ask busy 1 (.declare 0x200#16 0#8 9#8 0#8 0xFF#8 0#8))) 1 = some (.ok, [27#8, 1#8]) := by
  decide +kernel

/-- R16 and R18: 20 is in service of LP1, so it is DRAINING and LP2's idle subscription is gone. -/
theorem test_retire :
    let t := after (.retire 1) (ask busy 1 (.retire (hd 20)))
    answer t 1 = some (.retiring, []) ∧ t.isDraining 20 = true ∧ t.subAt 20 2 = none := by decide +kernel

/-- R20: another port's record is OWNED; one owned by NONE is taken. -/
theorem test_claim :
    answer (after (.claim 2) (ask busy 2 (.claim (hd 20)))) 2 = some (.owned, [])
      ∧ answer (after (.claim 2) (ask (put busy 20 (lvl 0x100#16 .nobody 5#8)) 2 (.claim (hd 20)))) 2 = some (.ok, []) := by
  decide +kernel

/-- Table 1-9 and Table 11-8: LEVEL, LIVE, owned by GP0, D0, not locked, value 1, version 0, bound to GP0, no subscriber. -/
theorem test_lookup :
    answer (after (.lookup 2) (ask busy 2 (.lookup 0x103#16))) 2
      = some (.ok, [23#8, 1#8, 0#8, 1#8, 0x10#8, 0#8, 0#8, 1#8, 0#8, 0#8, 0#8, 0#8]) := by decide +kernel

/-- R22: INPUT-bound is BOUND; a MEMBER port is DENIED. -/
theorem test_lock :
    answer (after (.lock 0) (ask busy 0 (.lock (hd 23)))) 0 = some (.bound, [])
      ∧ answer (after (.lock 1) (ask busy 1 (.lock (hd 20)))) 1 = some (.denied, []) := by decide +kernel

/-- R34: one change with the new version; R56: LP2's HELD RISE follows the value 0 down. -/
theorem test_set :
    let t := after (.set 1) (ask busy 1 (.set (hd 20) 0#8))
    answer t 1 = some (.ok, [0#8, 1#8]) ∧ isPending (t.subAt 20 2) = false := by decide +kernel

/-- R35: CONFLICT with value and version. -/
theorem test_set_if :
    answer (after (.setIf 1) (ask busy 1 (.setIf (hd 20) 1#16 0#8))) 1 = some (.conflict, [5#8, 0#8, 0#8]) := by
  decide +kernel

/-- R36 and R54: the value goes on by the amount, the count stays at 15 and the snap follows. -/
theorem test_raise :
    let t := after (.raise 1) (ask busy 1 (.raise (hd 21) 4#8))
    answer t 1 = some (.ok, [4#8, 0#8, 1#8]) ∧ (t.subAt 21 2).bind (·.mark) = some { count := 15, snap := 4#8 } := by
  decide +kernel

/-- R37: a DRAINING record is read. -/
theorem test_read :
    answer (after (.read 4) (ask busy 4 (.read (hd 22)))) 4 = some (.ok, [1#8, 0#8, 0#8, 1#8]) := by decide +kernel

/-- R39: each item with its own status. -/
theorem test_read_group :
    answer (after (.readGroup 4) (ask busy 4 (.readGroup [hd 20, ⟨200#8, 1#8⟩, hd 30]))) 4
      = some (.ok, [0#8, 5#8, 0#8, 0#8, 0x20#8, 0#8, 0#8, 0#8, 0x22#8, 0#8, 0#8, 0#8]) := by decide +kernel

/-- R49: a HELD RISE on a value that is not 0 is pending at once. -/
theorem test_subscribe :
    answer (after (.subscribe 4) (ask busy 4 (.subscribe (hd 20) 7#8 1#8 0#8 1#8 6#8 0#8))) 4
      = some (.ok, [5#8, 0#8, 0#8, 1#8]) := by decide +kernel

/-- R50 and R100: LP2 leaves the awaited set of D1 as the last, and the warning ends. -/
theorem test_unsubscribe :
    let t := after (.unsubscribe 2) (ask busy 2 (.unsubscribe (hd 13)))
    answer t 2 = some (.ok, []) ∧ (t.domains[(1 : Dom)].state, t.valueAt 25) = (.held, 0#8) := by decide +kernel

/-- R66: at priority 2, 20 comes before 21 in the round after the pointer 127; Table 4-2. -/
theorem test_acquire :
    answer (after (.acquire 2) (ask busy 2 .acquire)) 2
      = some (.ok, [20#8, 1#8, 1#8, 0#8, 2#8, 1#8, 5#8, 5#8, 0#8, 0#8, 1#8]) := by decide +kernel

/-- R72, R76: the OVERDUE entry on the DRAINING 22 ends, OVERDUE goes back to 0 and the slot is FREE; flags 1 and 4. -/
theorem test_release :
    let t := after (.release 1) (ask busy 1 (.release (hd 22)))
    answer t 1 = some (.ok, [22#8, 1#8, 2#8, 5#8]) ∧ t.valueAt 7 = 0#8 ∧ t.slots[(22 : SlotNo)].record = none := by
  decide +kernel

/-- The second row of Table 5-2, A first: the engine has chosen LP1's RELEASE of 20, and the deadline of the entry has run out
before the release is carried out. -/
def raced : State :=
  { (busy.modPort 1 fun q => { q with link := .opened }).modDeadline 1 3 fun _ =>
      { timer := none, flag := some { slot := 20, token := 1#8 } } with
    taking := some (.command 1 { tag := 0x77#8, command := .release (hd 20) }) }

/-- R90: the release answers overdue no, OVERDUE stays at 1, and the request stands. -/
theorem test_release_before_expiry :
    let t := after (.release 1) raced
    answer t 1 = some (.ok, [20#8, 1#8, 1#8, 0#8]) ∧ (t.valueAt 7, t.versionAt 7, t.taking) = (1#8, 1#16, none)
      ∧ t.deadlines[(1 : Port)][(3 : Prio)].flag = some { slot := 20, token := 1#8 } := by decide +kernel

/-- R90: the request then finds no entry on the slot and is discarded. -/
theorem test_expiry_after_release :
    let s := after (.eligibleIndication 1) (after (.answerArrival 1) (after (.release 1) raced))
    let t := after (.deadlineExpiryRequest 1 3) s
    s.choice = some (.deadline 1 3 { slot := 20, token := 1#8 }) ∧ (t.valueAt 7, t.versionAt 7) = (1#8, 1#16)
      ∧ t.deadlines[(1 : Port)][(3 : Prio)].flag = none := by decide +kernel

/-- R74: with an empty list, NONE. -/
theorem test_release_top : answer (after (.releaseTop 4) (ask busy 4 .releaseTop)) 4 = some (.none, []) := by decide +kernel

/-- R64: the answer carries the threshold before. -/
theorem test_threshold :
    let t := after (.threshold 1) (ask busy 1 (.threshold 0#8))
    answer t 1 = some (.ok, [8#8]) ∧ t.services[(1 : Port)].threshold = 0 := by decide +kernel

/-- R79 and R164: threshold, pending count, then the entries oldest first, OVERDUE in bit 7. -/
theorem test_service_list :
    answer (after (.serviceList 1) (ask busy 1 .serviceList)) 1
      = some (.ok, [8#8, 0#8, 20#8, 1#8, 3#8, 1#8, 22#8, 1#8, 0x81#8, 2#8]) := by decide +kernel

/-- R95: a warning of D3 awaits LP1; R97: an immediate reset of D0 returns nothing, 23 being at 1 with default 0. -/
theorem test_domain_reset :
    answer (after (.domainReset 0) (ask busy 0 (.domainReset 3#8 0#8 9#8))) 0 = some (.started, [1#8, 2#8, 9#8])
      ∧ answer (after (.domainReset 0) (ask busy 0 (.domainReset 0#8 1#8 0#8))) 0 = some (.ok, [1#8]) := by decide +kernel

/-- R106: D2 comes back to RUN from HELD; no record of it is bound. -/
theorem test_domain_release :
    let t := after (.domainRelease 0) (ask busy 0 (.domainRelease 2#8))
    answer t 0 = some (.ok, [2#8, 0#8]) ∧ t.valueAt 14 = 0#8 := by decide +kernel

/-- R114: the pin is sampled at once, at the active level. -/
theorem test_bind_pin :
    let t := after (.bindPin 0 (some .high)) (ask (put busy 20 (lvl 0x100#16 .nobody 5#8)) 0 (.bindPin 4#8 (hd 20) 0#8 1#8 3#8))
    answer t 0 = some (.ok, [1#8, 1#8, 1#8, 0#8, 1#8]) ∧ t.slots[(20 : SlotNo)].record.map (·.owner) = some (.pin 4) := by
  decide +kernel

/-- R120: the record of an INPUT binding is left owned by NONE. -/
theorem test_unbind_pin :
    let t := after (.unbindPin 0) (ask busy 0 (.unbindPin 0#8))
    answer t 0 = some (.ok, [23#8, 1#8, 0#8]) ∧ t.slots[(23 : SlotNo)].record.map (·.owner) = some .nobody := by
  decide +kernel

/-- Table 7-4: an OUTPUT binding. -/
theorem test_pin_query :
    answer (after (.pinQuery 4) (ask busy 4 (.pinQuery 1#8))) 4
      = some (.ok, [1#8, 24#8, 1#8, 1#8, 0#8, 1#8, 0xFF#8, 1#8, 0xFF#8, 1#8]) := by decide +kernel

/-- R149. -/
theorem test_evict :
    let t := after (.evict 0) (ask busy 0 (.evict 5#8))
    answer t 0 = some (.ok, [0#8]) ∧ t.ports[(5 : Port)].inEvict = true := by decide +kernel

/-! ## Deciding the invariants of a state -/

def decMem {α : Type} (o : Option α) (P : α → Prop) (d : ∀ a, Decidable (P a)) : Decidable (∀ a ∈ o, P a) :=
  match o with
  | none => .isTrue (by simp)
  | some x =>
    match d x with
    | .isTrue h => .isTrue (by simpa using h)
    | .isFalse h => .isFalse (by simpa using h)

def decAll {n : Nat} {P : Fin n → Prop} (d : ∀ i, Decidable (P i)) : Decidable (∀ i, P i) := @Nat.decidableForallFin n P d

/-- A part whose Id Map is laid out slot by slot, in the order of a list of slots. -/
theorem idMapExact_of {s : State} (l : List SlotNo) (f : SlotNo → Half) (h1 : s.idMap = l.map fun i => (f i, i))
    (h2 : (l.map fun i => (f i).toNat).Pairwise (· < ·))
    (h3 : ∀ i, s.idAt i = if i ∈ l then some (f i) else none) : IdMapExact s := by
  refine ⟨?_, ?_, ?_⟩
  · rw [h1, List.pairwise_map]
    exact List.pairwise_map.mp h2
  · intro e he
    rw [h1, List.mem_map] at he
    obtain ⟨i, hi, rfl⟩ := he
    rw [h3, if_pos hi]
  · intro i id hid
    rw [h3] at hid
    split at hid
    · next hi =>
      cases hid
      rw [h1]
      exact List.mem_map_of_mem (f := fun i => (f i, i)) hi
    · cases hid

/-- The slots from i on, n of them. -/
def slotsFrom (i n : Nat) : List SlotNo := (List.range' i n).map (Fin.ofNat 128)

def decSystemForm (o : Option Record) (id : Half) : Decidable (SystemForm o id) := by
  delta SystemForm
  cases o <;> infer_instance

def decSystem (s : State) : Decidable (SystemRecordsStand s) := by
  delta SystemRecordsStand
  exact @instDecidableForall _ _ inferInstance (@instDecidableAnd _ _
    (decAll fun i => decMem _ _ fun id => @instDecidableAnd _ _ inferInstance (decSystemForm _ _))
    (@instDecidableAnd _ _ (decAll fun g => decMem _ _ fun b => inferInstance) inferInstance))

def decService (s : State) : Decidable (ServiceListsOrdered s) := by
  delta ServiceListsOrdered
  infer_instance

def decBindingHolds (o : Option Record) (g : Pin) (b : Binding) : Decidable (BindingHolds o g b) := by
  delta BindingHolds
  cases o <;> infer_instance

def decInputBoundTo (x : PinState) (i : SlotNo) : Decidable (InputBoundTo x i) := by
  unfold InputBoundTo
  split <;> infer_instance

def decWire (x : PinState) : Decidable (WireAgrees x) := by
  unfold WireAgrees
  split
  · infer_instance
  · split <;> infer_instance

def decBindings (s : State) : Decidable (BindingsStand s) := by
  delta BindingsStand
  exact @instDecidableAnd _ _ (decAll fun g => decMem _ _ fun b => decBindingHolds _ _ _)
    (@instDecidableAnd _ _ (decAll fun g => decAll fun h => decMem _ _ fun b => decMem _ _ fun c => inferInstance)
      (@instDecidableAnd _ _
        (decAll fun i => decMem _ _ fun r => decAll fun g => @instDecidableForall _ _ inferInstance (decInputBoundTo _ _))
        (decAll fun g => decWire _)))

def decHeld (s : State) : Decidable (HeldAtDefault s) := by
  delta HeldAtDefault
  exact decAll fun i => @instDecidableForall _ _ inferInstance (decMem _ _ fun r =>
    @instDecidableForall _ _ inferInstance (@instDecidableForall _ _ inferInstance (@instDecidableForall _ _ inferInstance
      (@instDecidableForall _ _ inferInstance (decMem _ _ fun v => inferInstance)))))

def decOutputs (s : State) : Decidable (OutputsFollow s) := by
  delta OutputsFollow
  exact decAll fun g => decMem _ _ fun b => inferInstance

def decDraining (s : State) : Decidable (DrainingInService s) := by
  delta DrainingInService
  exact decAll fun i => decMem _ _ fun r => @instDecidableForall _ _ inferInstance (@instDecidableAnd _ _ inferInstance
    (decAll fun p => decMem _ _ fun u => inferInstance))

def decMarks (s : State) : Decidable (MarksCounted s) := by
  delta MarksCounted
  exact decAll fun i => decAll fun p => decMem _ _ fun u => decMem _ _ fun m => inferInstance

theorem busy_idMap : IdMapExact busy :=
  idMapExact_of (slotsFrom 20 7 ++ slotsFrom 0 20) (fun i => (systemId i).getD (BitVec.ofNat 16 (0xEC + i.val)))
    (by decide +kernel) (by decide +kernel) (by decide +kernel)

theorem full_idMap : IdMapExact full :=
  idMapExact_of (slotsFrom 20 108 ++ slotsFrom 0 20) (fun i => (systemId i).getD (BitVec.ofNat 16 i.val))
    (by decide +kernel) (by decide +kernel) (by decide +kernel)

theorem busy_system : SystemRecordsStand busy := @of_decide_eq_true _ (decSystem busy) (by decide +kernel)
theorem busy_service : ServiceListsOrdered busy := @of_decide_eq_true _ (decService busy) (by decide +kernel)
theorem busy_overdue : OverdueCounted busy := by unfold OverdueCounted; decide +kernel
theorem busy_held : HeldAtDefault busy := @of_decide_eq_true _ (decHeld busy) (by decide +kernel)
theorem busy_awaited : AwaitedAreGuards busy := by unfold AwaitedAreGuards; decide +kernel
theorem busy_bindings : BindingsStand busy := @of_decide_eq_true _ (decBindings busy) (by decide +kernel)
theorem busy_outputs : OutputsFollow busy := @of_decide_eq_true _ (decOutputs busy) (by decide +kernel)
theorem busy_draining : DrainingInService busy := @of_decide_eq_true _ (decDraining busy) (by decide +kernel)
theorem busy_marks : MarksCounted busy := @of_decide_eq_true _ (decMarks busy) (by decide +kernel)

theorem leaving_idMap : IdMapExact leaving :=
  idMapExact_of (slotsFrom 20 14 ++ slotsFrom 0 20) (fun i => (systemId i).getD (BitVec.ofNat 16 (0xEC + i.val)))
    (by decide +kernel) (by decide +kernel) (by decide +kernel)
theorem leaving_system : SystemRecordsStand leaving := @of_decide_eq_true _ (decSystem leaving) (by decide +kernel)
theorem leaving_service : ServiceListsOrdered leaving := @of_decide_eq_true _ (decService leaving) (by decide +kernel)
theorem leaving_bindings : BindingsStand leaving := @of_decide_eq_true _ (decBindings leaving) (by decide +kernel)
theorem leaving_draining : DrainingInService leaving := @of_decide_eq_true _ (decDraining leaving) (by decide +kernel)

/-! The invariants do not look at the ports (but for the bounds of the queues) or at the queue of waiting steps. -/

theorem with_system {s : State} (h : SystemRecordsStand s) (p : Port) (f : PortState → PortState) (l : List Instr) :
    SystemRecordsStand (ported s p f l) := h
theorem with_service {s : State} (h : ServiceListsOrdered s) (p : Port) (f : PortState → PortState) (l : List Instr) :
    ServiceListsOrdered (ported s p f l) := h
theorem with_awaited {s : State} (h : AwaitedAreGuards s) (p : Port) (f : PortState → PortState) (l : List Instr) :
    AwaitedAreGuards (ported s p f l) := h
theorem with_bindings {s : State} (h : BindingsStand s) (p : Port) (f : PortState → PortState) (l : List Instr) :
    BindingsStand (ported s p f l) := h
theorem with_draining {s : State} (h : DrainingInService s) (p : Port) (f : PortState → PortState) (l : List Instr) :
    DrainingInService (ported s p f l) := h
theorem with_idMap {s : State} (h : IdMapExact s) (p : Port) (f : PortState → PortState) (l : List Instr) :
    IdMapExact (ported s p f l) := h
theorem with_overdue {s : State} (h : OverdueCounted s) (p : Port) (f : PortState → PortState) (l : List Instr) :
    OverdueCounted (ported s p f l) := h
theorem with_held {s : State} (h : HeldAtDefault s) (p : Port) (f : PortState → PortState) (l : List Instr) :
    HeldAtDefault (ported s p f l) := h
theorem with_outputs {s : State} (h : OutputsFollow s) (p : Port) (f : PortState → PortState) (l : List Instr) :
    OutputsFollow (ported s p f l) := h
theorem with_marks {s : State} (h : MarksCounted s) (p : Port) (f : PortState → PortState) (l : List Instr) :
    MarksCounted (ported s p f l) := h
theorem service_deadline {s : State} (h : ServiceListsOrdered s) (p : Port) (k : Prio) (f : DeadlineUnit → DeadlineUnit) :
    ServiceListsOrdered (s.modDeadline p k f) := h

/-! ## The hypotheses of the statements are met

One theorem for each statement that has hypotheses: a state and operands for each of its clauses, at the ends of the ranges a
clause speaks of. -/

/-- The command c on the handle of slot i, asked by p of the part that holds just the record r there, meets `Takes`, `Names`
and LIVE. -/
def Case (c : Handle → Command) (p : Port) (i : SlotNo) (r : Record) : Prop :=
  Takes (ask (put base i r) p (c (hd i))) p 0x77#8 (c (hd i)) [] ∧ Names (ask (put base i r) p (c (hd i))) (hd i) i r
    ∧ r.state = .live

/-- The record in slot i of the busy part. -/
def busyAt (i : SlotNo) : Record := (busy.slots[i].record).getD mine

/-- The command c on the handle of slot i, asked by p of the busy part, meets `Takes`, `Names` and LIVE. -/
def Busy (c : Handle → Command) (p : Port) (i : SlotNo) : Prop :=
  Takes (ask busy p (c (hd i))) p 0x77#8 (c (hd i)) [] ∧ Names (ask busy p (c (hd i))) (hd i) i (busyAt i)
    ∧ (busyAt i).state = .live

/-- The command c, asked by p of the busy part, meets `Takes`. -/
def Asked (p : Port) (c : Command) : Prop := Takes (ask busy p c) p 0x77#8 c []

theorem classes : busy.ports[(0 : Port)].cls = .control ∧ busy.ports[(1 : Port)].cls = .member := by decide +kernel

theorem witness_StepRunsTheFrontStep :
    ({ base with pending := [.coldReset] } : State).pending = .coldReset :: [] ∧ base.pending = [] := ⟨rfl, rfl⟩

theorem witness_EveryStepGoesOn :
    base.rstLow = false ∧ State.reset.rstLow = true ∧ base.divider ≠ 31 ∧ ranOut.tickUnfinished = true
      ∧ ({ base with divider := 31 } : State).divider = 31 ∧ busy.deadlines[(1 : Port)][(3 : Prio)].runOutDue = false
      ∧ busy.warnings[(1 : Dom)].runOutDue = false ∧ busy.pins[(0 : Pin)].acceptDue = false
      ∧ base.ports[(0 : Port)].inAnswer = none ∧ base.ports[(0 : Port)].inIndication = none
      ∧ base.ports[(0 : Port)].inEvict = false ∧ base.ports[(0 : Port)].inCompletion = false
      ∧ Asked 1 .acquire ∧ Opcode.release ≠ Command.acquire.opcode := by
  unfold Asked Takes
  repeat' apply And.intro
  all_goals decide +kernel

theorem witness_ResetReleaseBuildsTheDirectory : State.reset.rstLow = true := rfl

/-- The three rows of Table 7-3 at GP0, both boards at the driven GP1, and the unbound GP2. -/
theorem witness_TickCountsAndSamples :
    State.reset.rstLow = true ∧ base.rstLow = false ∧ base.divider.val < 31 ∧ ({ base with divider := 30 } : State).divider.val < 31
      ∧ ({ busy with divider := 31 } : State).tickUnfinished = false
      ∧ busy.pins[(2 : Pin)].driver = .highZ ∧ busy.pins[(2 : Pin)].binding = none
      ∧ busy.pins[(1 : Pin)].driver = .driving .high
      ∧ busy.pins[(0 : Pin)].binding = some { slot := 23, dir := .input 2, active := .high, serial := 1#8 }
      ∧ busy.pins[(0 : Pin)].input = some { accepted := .high, count := 0, due := false }
      ∧ (let t := after (.tick (Vector.replicate 16 (some .high))) { busy with divider := 31 };
          t.pins[(0 : Pin)].raw = .high)
      ∧ (let t := after (.tick (Vector.replicate 16 (some .low)))
            { busy.modPin 0 fun x => { x with input := some { accepted := .high, count := 2, due := false } } with divider := 31 };
          t.pins[(0 : Pin)].input = some { accepted := .high, count := 2, due := true }) := by
  decide +kernel

theorem witness_RunOutsAndAcceptancesRaiseFlags :
    ranOut.deadlines[(1 : Port)][(3 : Prio)].timer = some { slot := 20, token := 1#8, remaining := 0 }
      ∧ ranOut.warnings[(1 : Dom)].timer = some { serial := 1#8, remaining := 0 }
      ∧ (let s := busy.modPin 0 fun x => { x with input := some { accepted := .low, count := 2, due := true } };
          s.pins[(0 : Pin)].binding = some { slot := 23, dir := .input 2, active := .high, serial := 1#8 }
            ∧ s.pins[(0 : Pin)].input = some { accepted := .low, count := 2, due := true }) := by
  decide +kernel

/-- LP0 takes frames in every link state but OFF; the four link states, and both bodies, of the six frame statements. -/
theorem witness_frames :
    (∀ l ∈ [LinkState.closed, .opened, .faulted, .closing .reset, .closing .fault, .closing .evict],
        (linked l).rstLow = false ∧ (linked l).ports[(0 : Port)].link = l ∧ l ≠ .off)
      ∧ ([] : List Byte) = [] ∧ [0#8] ≠ ([] : List Byte) := by
  decide +kernel

theorem witness_HelloOutcomes : (linked .closed).rstLow = false ∧ (linked .closed).ports[(0 : Port)].link ≠ .off := by
  decide +kernel

/-- Queues of 0, 3 and 4 commands, a body that is a command and one that is none. -/
theorem witness_SubmitOutcomes :
    (linked .opened).rstLow = false ∧ (linked .opened).ports[(0 : Port)].link = .opened
      ∧ (linked .opened).ports[(0 : Port)].submit.length = 0
      ∧ (let q (n : Nat) := ((linked .opened).modPort 0 fun q =>
            { q with submit := List.replicate n { tag := 0#8, command := .acquire } }).ports[(0 : Port)];
          (q 3).submit.length < 4 ∧ 4 ≤ (q 4).submit.length ∧ (q 4).link = .opened)
      ∧ decodeSubmit [0#8, 0x41#8] = some (0#8, .acquire) ∧ decodeSubmit [0#8] = none := by
  decide +kernel

/-- The rows of Table 8-3: no answer; one not outstanding; one outstanding and acknowledged, with none or one behind it; one
outstanding and not acknowledged. Acknowledgements 0, 15 and none; the bodies 10H and 00H 00H are malformed. -/
theorem witness_PullOutcomes :
    (let q (l : List Answer) (o : Option (BitVec 4)) := ((linked .opened).modPort 0 fun q =>
        { q with answers := l, outstanding := o }).ports[(0 : Port)];
      (q [] none).answers = [] ∧ (q [blank] none).outstanding = none ∧ (q [blank] (some 0#4)).outstanding = some 0#4
        ∧ (q [blank, blank] (some 15#4)).answers = blank :: blank :: [] ∧ (some 15#4 : Option (BitVec 4)) ≠ none
        ∧ (q [blank] none).link = .opened)
      ∧ [0x00#8] = [((some 0#4 : Option (BitVec 4)).map fun n => n.setWidth 8).getD 0xFF#8]
      ∧ [0x0F#8] = [((some 15#4 : Option (BitVec 4)).map fun n => n.setWidth 8).getD 0xFF#8]
      ∧ [0xFF#8] = [((none : Option (BitVec 4)).map fun n => n.setWidth 8).getD 0xFF#8]
      ∧ [0x10#8] ≠ [0xFF#8] ∧ (∀ n : BitVec 4, [0x10#8] ≠ [n.setWidth 8])
      ∧ [0x00#8, 0x00#8] ≠ [0xFF#8] ∧ ∀ n : BitVec 4, [0x00#8, 0x00#8] ≠ [n.setWidth 8] := by
  decide +kernel

theorem witness_ResetLinkOutcomes :
    (linked .faulted).rstLow = false ∧ (linked .faulted).ports[(0 : Port)].link = .faulted := by decide +kernel

theorem witness_PeekReportsThePort :
    (linked (.closing .evict)).rstLow = false ∧ (linked (.closing .evict)).ports[(0 : Port)].link ≠ .off := by
  decide +kernel

/-- Counts 0, 2, 3 and 4; at 3 each of the link states is met by `witness_frames`. -/
theorem witness_BadFramesAreCounted :
    (∀ n ∈ [(0 : Fin 5), 2, 3, 4],
        ((linked .opened).modPort 0 fun q => { q with badCount := n }).ports[(0 : Port)].badCount = n)
      ∧ (0 : Fin 5).val < 3 ∧ (2 : Fin 5).val < 3 := by
  decide +kernel

theorem witness_SilentPortsTakeNoFrame : State.reset.rstLow = true ∧ (linked .off).ports[(0 : Port)].link = .off := by
  decide +kernel

theorem witness_AnswersArrive :
    (let s (l : LinkState) := (linked l).modPort 0 fun q => { q with inAnswer := some blank };
      (s .opened).ports[(0 : Port)].inAnswer = some blank ∧ (s .opened).ports[(0 : Port)].link = .opened
        ∧ (s .closed).ports[(0 : Port)].inAnswer = some blank ∧ (s .closed).ports[(0 : Port)].link ≠ .opened) := by
  decide +kernel

theorem witness_IndicationsArriveAndDriveAttn :
    (base.modPort 0 fun q => { q with inIndication := some true }).ports[(0 : Port)].inIndication = some true := by
  decide +kernel

theorem witness_EvictRequestsArrive :
    (let s (l : LinkState) := (linked l).modPort 0 fun q => { q with inEvict := true };
      (s .opened).ports[(0 : Port)].inEvict = true ∧ (s .opened).ports[(0 : Port)].link = .opened
        ∧ (s .faulted).ports[(0 : Port)].inEvict = true ∧ (s .faulted).ports[(0 : Port)].link ≠ .opened) := by
  decide +kernel

theorem witness_CompletionsArrive :
    ∀ c ∈ [Cause.reset, .fault, .evict],
      (let s := (linked (.closing c)).modPort 0 fun q => { q with inCompletion := true };
        s.ports[(0 : Port)].inCompletion = true ∧ s.ports[(0 : Port)].link = .closing c) := by
  decide +kernel

/-- A free engine; one held up by a tick; one that has chosen; a tick that finds a choice, and one that finds none; and requests
that wait behind a teardown. -/
theorem witness_ArbiterChoosesInOrder :
    closing.engineFree = true ∧ closing.taking = none ∧ closing.choice = some (.teardown 1)
      ∧ ranOut.taking = none ∧ ranOut.engineFree = false ∧ ranOut.choice = none
      ∧ raced.taking = some (.command 1 { tag := 0x77#8, command := .release (hd 20) })
      ∧ ({ raced with taking := none } : State).engineFree = true
      ∧ closing.choice ≠ some (.teardown 0) ∧ (∀ v ∈ [NoticeValue.closed, .opened, .faulted], closing.choice ≠ some (.notice 1 v))
      ∧ (∀ g : Pin, closing.choice ≠ some (.pinUpdate g 0#8)) := by
  decide +kernel

theorem witness_LinkNoticesSetTheLinkRecord :
    ∀ v ∈ [NoticeValue.closed, .opened, .faulted],
      (base.modPort 3 fun q => { q with notice := some v }).choice = some (.notice 3 v)
        ∧ ({ base with taking := some (.notice 3 v) } : State).choice = some (.notice 3 v) := by
  decide +kernel

/-- An expiry that names LP1's entry on 20, and one whose token has passed. -/
theorem witness_DeadlineExpiriesMarkTheEntry :
    (let s (token : Byte) := busy.modDeadline 1 3 fun _ => { timer := none, flag := some { slot := 20, token := token } };
      (s 1#8).choice = some (.deadline 1 3 { slot := 20, token := 1#8 })
        ∧ (s 0#8).choice = some (.deadline 1 3 { slot := 20, token := 0#8 })
        ∧ busy.services[(1 : Port)].list = [] ++ ⟨20, 1#8, false⟩ :: [⟨22, 2#8, true⟩]
        ∧ ∀ e ∈ busy.services[(1 : Port)].list, e.slot = 20 → e.token = 0#8 → e.overdue = true)
      ∧ ServiceListsOrdered (busy.modDeadline 1 3 fun _ => { timer := none, flag := some { slot := 20, token := 1#8 } }) :=
  ⟨by decide +kernel, service_deadline busy_service _ _ _⟩

/-- D1 in WARNING with the serial of the request, with another serial, and D0 in RUN. -/
theorem witness_WarningExpiriesEndTheWarning :
    warned.choice = some (.warning 1 1#8)
      ∧ warned.domains[(1 : Dom)].state = .warning ∧ warned.domains[(1 : Dom)].serial = 1#8
      ∧ (let s := busy.modWarning 1 fun _ => { timer := none, flag := some 0#8 };
          s.choice = some (.warning 1 0#8) ∧ s.domains[(1 : Dom)].serial ≠ 0#8)
      ∧ (let s := busy.modWarning 0 fun _ => { timer := none, flag := some 0#8 };
          s.choice = some (.warning 0 0#8) ∧ s.domains[(0 : Dom)].state ≠ .warning) := by
  decide +kernel

/-- GP0 with its serial and with an older one; the OUTPUT-bound GP1; the unbound GP2; a record of a HELD domain. -/
theorem witness_PinUpdatesApplyTheLevel :
    updated.choice = some (.pinUpdate 0 1#8)
      ∧ updated.pins[(0 : Pin)].binding = some { slot := 23, dir := .input 2, active := .high, serial := 1#8 }
      ∧ updated.domainHeld (busyAt 23).domain = false ∧ updated.slots[(23 : SlotNo)].record = some (busyAt 23)
      ∧ (updated.modDomain 0 fun x => { x with state := .held }).domainHeld (busyAt 23).domain = true
      ∧ (let s (g : Pin) (serial : Byte) := busy.modPin g fun x => { x with flag := some serial };
          (s 0 0#8).choice = some (.pinUpdate 0 0#8) ∧ (s 1 1#8).choice = some (.pinUpdate 1 1#8)
            ∧ (s 2 1#8).choice = some (.pinUpdate 2 1#8) ∧ (s 2 1#8).pins[(2 : Pin)].binding = none
            ∧ (s 1 1#8).pins[(1 : Pin)].binding = some { slot := 24, dir := .output, active := .low, serial := 1#8 }) := by
  decide +kernel

/-- LP1's teardown, as it stands and as chosen before a tick: entries on a LIVE and on a DRAINING record; records of its own
locked, DRAINING, and under each policy, RETIRE with and without another port in service and EVENT under DEFAULT; OUTPUT pins
of a retired and of a defaulted record; subscriptions with and without KEEP; the warning of D3, which it ends, and of D4, in
which LP2 is awaited too. -/
theorem witness_TeardownSettlesThePort :
    leaving.choice = some (.teardown 1)
      ∧ ({ leaving with ports := busy.ports, taking := some (.teardown 1) } : State).choice = some (.teardown 1)
      ∧ SystemRecordsStand leaving ∧ ServiceListsOrdered leaving ∧ BindingsStand leaving ∧ DrainingInService leaving
      ∧ IdMapExact leaving
      ∧ leaving.lastAwaited 3 1 = true ∧ leaving.lastAwaited 4 1 = false ∧ leaving.domains[(4 : Dom)].awaited[(1 : Port)] = true
      ∧ leaving.domains[(4 : Dom)].awaited[(2 : Port)] = true
      ∧ (∀ i ∈ [(26 : SlotNo), 28], (leaving.slots[i].record).any (·.retiredBy 1) = true)
      ∧ (∀ i ∈ [(25 : SlotNo), 30], (leaving.slots[i].record).any (leaving.defaultedBy 1) = true)
      ∧ (leaving.slots[(29 : SlotNo)].record).any (fun r => r.orphanOf 1 && !leaving.defaultedBy 1 r) = true := by
  refine ⟨by decide +kernel, by decide +kernel, leaving_system, leaving_service, leaving_bindings, leaving_draining,
    leaving_idMap, ?_⟩
  decide +kernel

/-- A MEMBER's EVICT; slots 128 and 255; a FREE slot; another generation; a DRAINING record. -/
theorem witness_ClassAndHandleChecksComeFirst :
    Asked 1 (.evict 9#8) ∧ Asked 1 (.set ⟨128#8, 1#8⟩ 0#8) ∧ Asked 0 (.lock ⟨255#8, 1#8⟩) ∧ Asked 1 (.set (hd 127) 0#8)
      ∧ busy.slots[(127 : SlotNo)].record = none ∧ Asked 1 (.read ⟨20#8, 2#8⟩) ∧ busy.slots[(20 : SlotNo)].gen ≠ 2#8
      ∧ Asked 1 (.set (hd 22) 0#8) ∧ (busyAt 22).state = .draining ∧ Names (ask busy 1 (.set (hd 22) 0#8)) (hd 22) 22 (busyAt 22)
      ∧ handleOf (.set (hd 22) 0#8) = some (hd 22, false) := by
  unfold Asked Takes Names
  repeat' apply And.intro
  all_goals decide +kernel

theorem witness_RefusedCommandsChangeNothing :
    Asked 1 (.evict 0#8) ∧ (∃ t a, exec (rowOf 1 none .evict) (ask busy 1 (.evict 0#8)) = .next t
      ∧ t.ports[(1 : Port)].inAnswer = some a ∧ a.status ∈ unchangingStatuses) := by
  refine ⟨by unfold Asked Takes; decide +kernel, _, { tag := 0x77#8, code := .evict, status := .denied, fields := [] }, rfl, ?_⟩
  decide +kernel

/-! ### The directory -/

/-- Each bad parameter at its first bad value; an id in use; a domain that is HELD; no FREE slot; and a FREE slot whose
generation is 255, under the greatest id a master may use. -/
theorem witness_DeclareOutcomes :
    Asked 1 (.declare 0xFF00#16 0#8 0#8 0#8 0xFF#8 0#8) ∧ Asked 1 (.declare 0x200#16 2#8 0#8 0#8 0xFF#8 0#8)
      ∧ Asked 1 (.declare 0x200#16 0#8 0#8 0#8 8#8 0#8) ∧ Asked 1 (.declare 0x200#16 0#8 0#8 0#8 0xFF#8 3#8)
      ∧ IdMapExact busy
      ∧ Asked 1 (.declare 0x100#16 1#8 0#8 0#8 7#8 2#8) ∧ busy.idAt 20 = some 0x100#16
      ∧ Asked 1 (.declare 0x200#16 1#8 0#8 0#8 2#8 2#8) ∧ busy.domainHeld (some 2) = true
      ∧ (∀ j : SlotNo, busy.idAt j ≠ some 0xFEFF#16) ∧ busy.domainHeld (some 7) = false
      ∧ Takes (ask full 1 (.declare 0xFEFF#16 0#8 0#8 0#8 7#8 2#8)) 1 0x77#8 (.declare 0xFEFF#16 0#8 0#8 0#8 7#8 2#8) []
      ∧ IdMapExact full ∧ (∀ i : SlotNo, 20 ≤ i.val → full.slots[i].record.isSome = true)
      ∧ (∀ j : SlotNo, full.idAt j ≠ some 0xFEFF#16)
      ∧ (let s := ask { busy with slots := busy.slots.set 27 { gen := 255#8, record := none } } 1
            (.declare 0xFEFF#16 0#8 0#8 0#8 7#8 2#8);
          Takes s 1 0x77#8 (.declare 0xFEFF#16 0#8 0#8 0#8 7#8 2#8) [] ∧ s.slots[(27 : SlotNo)] = { gen := 255#8, record := none }
            ∧ ∀ j : SlotNo, 20 ≤ j.val → j < 27 → s.slots[j].record.isSome = true) := by
  refine ⟨?_, ?_, ?_, ?_, busy_idMap, ?_, ?_, ?_, ?_, ?_, ?_, ?_, full_idMap, ?_, ?_, ?_⟩
  all_goals first | (unfold Asked Takes; decide +kernel) | (unfold Takes; decide +kernel) | decide +kernel

/-- The system slot 19; locked; another's record; the owner's, served and not served; a CONTROL port's; the user slots 20 and
127. -/
theorem witness_RetireOutcomes :
    Case .retire 1 19 sys ∧ Case .retire 1 20 { mine with locked := true } ∧ Case .retire 1 127 { mine with owner := .port 2 }
      ∧ Busy .retire 1 26 ∧ (busyAt 26).noSubs = true ∧ Busy .retire 1 20 ∧ busy.inService 1 20 = true
      ∧ (busyAt 20).owner = .port 1 ∧ Busy .retire 0 23 ∧ (busyAt 23).owner = .pin 0 ∧ BindingsStand busy := by
  refine ⟨?_, ?_, ?_, ?_, ?_, ?_, ?_, ?_, ?_, ?_, busy_bindings⟩
  all_goals first | (unfold Case Takes Names; decide +kernel) | (unfold Busy Takes Names; decide +kernel) | decide +kernel

theorem witness_ClaimOutcomes :
    Case .claim 1 19 sys ∧ Case .claim 1 20 { mine with locked := true } ∧ Case .claim 1 20 { mine with owner := .nobody }
      ∧ Case .claim 1 127 mine ∧ Case .claim 1 20 { mine with owner := .port 2 } ∧ Case .claim 1 20 { mine with owner := .pin 0 } := by
  unfold Case Takes Names
  repeat' apply And.intro
  all_goals decide +kernel

/-- From LP0: the system slot 19, the INPUT-bound 23, the OUTPUT-bound 24 (locked already) and the unbound 20. -/
theorem witness_LockOutcomes :
    Busy .lock 0 19 ∧ Busy .lock 0 23 ∧ InputBoundTo busy.pins[(0 : Pin)] 23 ∧ Busy .lock 0 24 ∧ Busy .lock 0 20
      ∧ (∀ g : Pin, ¬ InputBoundTo busy.pins[g] 24) ∧ BindingsStand busy := by
  refine ⟨?_, ?_, ?_, ?_, ?_, ?_, busy_bindings⟩
  · unfold Busy Takes Names; decide +kernel
  · unfold Busy Takes Names; decide +kernel
  · exact @of_decide_eq_true _ (decInputBoundTo _ _) (by decide +kernel)
  · unfold Busy Takes Names; decide +kernel
  · unfold Busy Takes Names; decide +kernel
  · exact @of_decide_eq_true _ (decAll fun g => @instDecidableNot _ (decInputBoundTo _ _)) (by decide +kernel)

/-- An id in the map and one that is not; LP1's list of two entries; GP16, and GP0, GP1 and GP15 by their bindings. -/
theorem witness_InspectionsReport :
    Asked 1 (.lookup 0x103#16) ∧ (busyAt 23).id = 0x103#16 ∧ IdMapExact busy ∧ Asked 1 (.lookup 0x1FF#16)
      ∧ (∀ i : SlotNo, busy.idAt i ≠ some 0x1FF#16) ∧ Asked 1 .serviceList ∧ ServiceListsOrdered busy
      ∧ Asked 1 (.pinQuery 16#8) ∧ Asked 1 (.pinQuery 0#8) ∧ Asked 1 (.pinQuery 1#8) ∧ Asked 1 (.pinQuery 15#8)
      ∧ (∀ g : Pin, WireAgrees busy.pins[g]) ∧ busy.pins[(15 : Pin)].binding = none := by
  refine ⟨?_, ?_, busy_idMap, ?_, ?_, ?_, busy_service, ?_, ?_, ?_, ?_, busy_bindings.2.2.2, ?_⟩
  all_goals first | (unfold Asked Takes; decide +kernel) | decide +kernel

/-! ### Values -/

/-- System slot 19; EVENT; locked; another's; a HELD domain; a version not expected; the value held; another value. -/
theorem witness_LevelWriteOutcomes :
    Case (fun h => .set h 9#8) 1 19 sys ∧ Case (fun h => .set h 9#8) 1 20 count
      ∧ Case (fun h => .setIf h 0#16 9#8) 1 20 { mine with locked := true }
      ∧ Case (fun h => .set h 9#8) 1 20 { mine with owner := .nobody }
      ∧ Busy (fun h => .set h 9#8) 1 26 ∧ busy.domainHeld (busyAt 26).domain = true ∧ (busyAt 26).owner = .port 1
      ∧ Case (fun h => .setIf h 1#16 9#8) 1 20 mine ∧ Case (fun h => .setIf h 0#16 5#8) 1 20 mine
      ∧ Case (fun h => .set h 5#8) 1 127 mine ∧ Case (fun h => .set h 9#8) 1 20 mine
      ∧ Case (fun h => .setIf h 0xFFFF#16 9#8) 1 20 { mine with version := 0xFFFF#16 } := by
  unfold Case Busy Takes Names
  repeat' apply And.intro
  all_goals decide +kernel

/-- Amounts 0, 1, 15 and 16; LEVEL; locked; another's; a HELD domain. -/
theorem witness_RaiseOutcomes :
    Case (fun h => .raise h 1#8) 1 19 sys ∧ Case (fun h => .raise h 0#8) 1 20 count ∧ Case (fun h => .raise h 16#8) 1 20 count
      ∧ Case (fun h => .raise h 1#8) 1 20 mine ∧ Case (fun h => .raise h 1#8) 1 20 { count with locked := true }
      ∧ Case (fun h => .raise h 1#8) 2 20 count ∧ Case (fun h => .raise h 1#8) 1 20 count
      ∧ Case (fun h => .raise h 15#8) 1 127 { count with value := 255#8 }
      ∧ (let s := ask (put busy 20 { count with domain := some 2 }) 1 (.raise (hd 20) 1#8);
          Takes s 1 0x77#8 (.raise (hd 20) 1#8) [] ∧ s.domainHeld (some 2) = true) := by
  unfold Case Takes Names
  repeat' apply And.intro
  all_goals decide +kernel

/-- A LIVE and a DRAINING record; READ_GROUPs of 0, 1, 8 and 9 handles, with items of each kind. -/
theorem witness_ReadsReport :
    Busy .read 1 20 ∧ Asked 1 (.read (hd 22)) ∧ Names (ask busy 1 (.read (hd 22))) (hd 22) 22 (busyAt 22)
      ∧ Asked 1 (.readGroup []) ∧ Asked 1 (.readGroup (List.replicate 9 (hd 20)))
      ∧ Asked 1 (.readGroup (List.replicate 8 (hd 20))) ∧ Asked 1 (.readGroup [⟨128#8, 1#8⟩])
      ∧ Names busy (hd 20) 20 (busyAt 20) ∧ busy.slots[(127 : SlotNo)].record = none ∧ 128 ≤ (128#8).toNat := by
  unfold Busy Asked Takes Names
  repeat' apply And.intro
  all_goals decide +kernel

/-! ### Subscriptions -/

/-- LATCHED subscriptions of each condition met and not met, with no mark and with counts 1, 14 and 15; EACH with amounts 1
and 15; HELD in service and not, the predicate true and false. -/
theorem witness_ChangesAreEvaluated :
    (plain 3).mode = .latched ∧ (plain 3).cond ≠ .each ∧ (plain 3).mark = none
      ∧ ({ plain 3 with cond := .rise } : Sub).afterChange false 1#8 2#8 0 = { plain 3 with cond := .rise }
      ∧ (({ plain 3 with cond := .fall, mark := some { count := 14, snap := 9#8 } } : Sub).afterChange false 1#8 0#8 0).mark
          = some { count := 15, snap := 0#8 }
      ∧ (({ plain 3 with cond := .equal 7#8, mark := some { count := 15, snap := 9#8 } } : Sub).afterChange false 1#8 7#8 0).mark
          = some { count := 15, snap := 7#8 }
      ∧ (({ plain 3 with cond := .each } : Sub).afterChange false 0#8 15#8 15).mark = some { count := 15, snap := 15#8 }
      ∧ (({ plain 3 with cond := .each } : Sub).afterChange false 0#8 1#8 1).mark = some { count := 1, snap := 1#8 }
      ∧ (({ plain 3 with cond := .fall, mode := .held } : Sub).afterChange false 1#8 0#8 0).mark = some { count := 1, snap := 0#8 }
      ∧ ({ plain 3 with cond := .fall, mode := .held } : Sub).afterChange true 1#8 0#8 0 = { plain 3 with cond := .fall, mode := .held } := by
  decide +kernel

/-- What AskedBy says of a priority of 8 or more. -/
theorem not_asked_of_prio {new : Sub} {i : SlotNo} {kind : Kind} {prio cond m mode cls attrs : Byte} (h : 8 ≤ prio.toNat) :
    ¬ AskedBy new i kind prio cond m mode cls attrs := by
  intro ha
  have := ha.2.1
  have := new.priority.isLt
  omega

/-- Priority 8 is BAD_PARAM; the greatest codes accepted on a LEVEL record, GUARD on a DOMAIN record, and EACH on an EVENT
record; in service; no pool entry left, and the last one; a replacement that takes GUARD away. -/
theorem witness_SubscribeOutcomes :
    (Case (fun h => .subscribe h 8#8 0#8 0#8 0#8 0#8 0#8) 1 20 mine
        ∧ ∀ new : Sub, ¬ AskedBy new 20 mine.kind 8#8 0#8 0#8 0#8 0#8 0#8)
      ∧ AskedBy { plain 7 with cond := .equal 9#8, mode := .held, cls := 6, keep := true } 127 .level 7#8 3#8 9#8 1#8 6#8 1#8
      ∧ AskedBy { plain 0 with guard := true } 19 .level 0#8 0xFF#8 0#8 0xFF#8 0#8 2#8
      ∧ AskedBy { plain 0 with cond := .each } 20 .event 0#8 4#8 0#8 0#8 0#8 0#8
      ∧ Case (fun h => .subscribe h 7#8 3#8 9#8 1#8 6#8 1#8) 1 127 mine ∧ base.poolInUse < 192
      ∧ Busy (fun h => .subscribe h 7#8 0#8 0#8 0#8 0#8 0#8) 1 20 ∧ busy.inService 1 20 = true
      ∧ Busy (fun h => .subscribe h 0#8 0#8 0#8 0#8 0#8 0#8) 2 13 ∧ ((busyAt 13).subs[(2 : Port)]).any (·.guard) = true
      ∧ (let s := ask full 1 (.subscribe (hd 52) 0#8 0#8 0#8 0#8 0#8 0#8);
          Takes s 1 0x77#8 (.subscribe (hd 52) 0#8 0#8 0#8 0#8 0#8 0#8) [] ∧ s.poolInUse = 192 ∧ s.subAt 52 1 = none) := by
  refine ⟨⟨?_, fun new => not_asked_of_prio (by decide)⟩, ?_⟩
  · unfold Case Takes Names; decide +kernel
  · unfold AskedBy Case Busy Takes Names; simp only [if_true, Accepted]
    repeat' apply And.intro
    all_goals decide +kernel

/-- No subscription; one in service; an idle one with GUARD, which is awaited; an idle one without. -/
theorem witness_UnsubscribeOutcomes :
    Busy .unsubscribe 1 25 ∧ (busyAt 25).subs[(1 : Port)] = none ∧ Busy .unsubscribe 1 20 ∧ busy.inService 1 20 = true
      ∧ Busy .unsubscribe 2 13 ∧ ((busyAt 13).subs[(2 : Port)]).any (·.guard) = true
      ∧ Busy .unsubscribe 2 20 ∧ ((busyAt 20).subs[(2 : Port)]).isSome = true ∧ busy.inService 2 20 = false := by
  unfold Busy Takes Names
  repeat' apply And.intro
  all_goals decide +kernel

/-! ### Attention -/

/-- LP2's subscription on 20. -/
def rise : Sub := { plain 2 with cond := .rise, mode := .held, mark := some { count := 1, snap := 5#8 } }

/-- LP4 has no subscription; of LP2's two eligible ones at priority 2 the one on 20 comes first after the pointer 127. -/
theorem witness_AcquireOutcomes :
    (Asked 4 .acquire ∧ ∀ i u, ¬ Eligible (ask busy 4 .acquire) 4 i u)
      ∧ Asked 2 .acquire ∧ SelectedBy (ask busy 2 .acquire) 2 20 rise ∧ rise.mark = some { count := 1, snap := 5#8 }
      ∧ (ask busy 2 .acquire).slots[(20 : SlotNo)].record = some (busyAt 20) := by
  have none4 : ∀ i : SlotNo, (ask busy 4 .acquire).subAt i 4 = none := by decide +kernel
  have list2 : (ask busy 2 .acquire).services[(2 : Port)].list = [] := by decide +kernel
  have first : ∀ j : SlotNo, ((ask busy 2 .acquire).subAt j 2).all (fun w => w.mark.isNone ||
      (decide (rise.priority < w.priority) || (decide (rise.priority = w.priority)
        && decide ((20 - (ask busy 2 .acquire).services[(2 : Port)].rotation[rise.priority] - 1 : SlotNo).val
          ≤ (j - (ask busy 2 .acquire).services[(2 : Port)].rotation[rise.priority] - 1).val)))) = true := by
    decide +kernel
  refine ⟨⟨by unfold Asked Takes; decide +kernel, fun i u h => ?_⟩, by unfold Asked Takes; decide +kernel,
    ⟨⟨by decide +kernel, by decide +kernel, by decide +kernel, fun e he => ?_⟩, fun j w hw he => ?_⟩, rfl, by decide +kernel⟩
  · have := h.1
    rw [none4 i] at this
    cases this
  · rw [list2] at he
    cases he
  · have h := first j
    rw [Option.mem_def] at hw
    rw [hw] at h
    have hm := he.2.1
    simp only [Option.all_some, Bool.or_eq_true, Bool.and_eq_true, decide_eq_true_eq] at h
    rcases h with h | h | h
    · simp [Option.isNone_iff_eq_none] at h
      simp [h] at hm
    · exact Or.inl h
    · exact Or.inr h

/-- No entry; the entries on 20 and on the DRAINING 22; the newest entry; an empty list. -/
theorem witness_ReleasesEndTheEntry :
    ServiceListsOrdered busy ∧ SystemRecordsStand busy ∧ Busy .release 1 25 ∧ busy.inService 1 25 = false
      ∧ Busy .release 1 20 ∧ (⟨20, 1#8, false⟩ : Entry) ∈ busy.services[(1 : Port)].list
      ∧ Asked 1 (.release (hd 22)) ∧ Names (ask busy 1 (.release (hd 22))) (hd 22) 22 (busyAt 22)
      ∧ (busyAt 22).subs[(1 : Port)] = some (plain 1) ∧ Asked 1 .releaseTop
      ∧ busy.services[(1 : Port)].list = [⟨20, 1#8, false⟩] ++ [⟨22, 2#8, true⟩]
      ∧ Asked 4 .releaseTop ∧ busy.services[(4 : Port)].list = [] := by
  refine ⟨busy_service, busy_system, ?_⟩
  unfold Busy Asked Takes Names
  repeat' apply And.intro
  all_goals decide +kernel

theorem witness_ThresholdOutcomes :
    Asked 1 (.threshold 9#8) ∧ Asked 1 (.threshold 255#8) ∧ Asked 1 (.threshold 8#8) ∧ Asked 1 (.threshold 0#8)
      ∧ (8#8).toNat = (8 : Fin 9).val ∧ (0#8).toNat = (0 : Fin 9).val ∧ 9 ≤ (9#8).toNat := by
  unfold Asked Takes
  repeat' apply And.intro
  all_goals decide +kernel

/-! ### Domains and pins -/

/-- Domain 8 and mode 2; D3 in RUN with LP1's GUARD; D0 in RUN without; D1 in WARNING; D2 HELD; each mode. -/
theorem witness_DomainResetOutcomes :
    Asked 0 (.domainReset 8#8 0#8 0#8) ∧ Asked 0 (.domainReset 7#8 2#8 0#8) ∧ Asked 0 (.domainReset 3#8 0#8 255#8)
      ∧ Asked 0 (.domainReset 3#8 0#8 0#8) ∧ busy.domains[(3 : Dom)].state = .run
      ∧ (∀ q : Port, (busy.guardPorts 3)[q] = (busy.subAt (domainSlot 3) q).any (·.guard)) ∧ (busy.guardPorts 3)[(1 : Port)] = true
      ∧ (∀ n : Nat, n < 8 → (2#8).getLsbD n = ((busy.guardPorts 3)[n]?).getD false)
      ∧ Asked 0 (.domainReset 0#8 1#8 0#8) ∧ Asked 0 (.domainReset 0#8 0#8 9#8) ∧ busy.domains[(0 : Dom)].state = .run
      ∧ (∀ q : Port, (busy.subAt (domainSlot 0) q).any (·.guard) = false)
      ∧ Asked 0 (.domainReset 1#8 0#8 9#8) ∧ Asked 0 (.domainReset 1#8 1#8 9#8) ∧ busy.domains[(1 : Dom)].state = .warning
      ∧ (∀ n : Nat, n < 8 → (4#8).getLsbD n = (busy.domains[(1 : Dom)].awaited[n]?).getD false)
      ∧ Asked 0 (.domainReset 2#8 0#8 9#8) ∧ busy.domains[(2 : Dom)].state = .held := by
  unfold Asked Takes
  repeat' apply And.intro
  all_goals decide +kernel

theorem witness_DomainReleaseOutcomes :
    Asked 0 (.domainRelease 8#8) ∧ Asked 0 (.domainRelease 7#8) ∧ busy.domains[(7 : Dom)].state = .run
      ∧ Asked 0 (.domainRelease 1#8) ∧ busy.domains[(1 : Dom)].state = .warning
      ∧ Asked 0 (.domainRelease 2#8) ∧ busy.domains[(2 : Dom)].state = .held ∧ SystemRecordsStand busy := by
  refine ⟨?_, ?_, ?_, ?_, ?_, ?_, ?_, busy_system⟩
  all_goals first | (unfold Asked Takes; decide +kernel) | decide +kernel

/-- From LP0: slot 19; each bad parameter at its first bad value and an EVENT record; a bound pin and a bound record; locked;
another's; INPUT with filters 0 and 15, the level found and not found, in a domain that is HELD; OUTPUT at both levels. -/
theorem witness_BindPinOutcomes :
    Case (fun h => .bindPin 0#8 h 0#8 0#8 0#8) 0 19 sys ∧ Case (fun h => .bindPin 16#8 h 0#8 0#8 0#8) 0 20 mine
      ∧ Case (fun h => .bindPin 15#8 h 2#8 0#8 0#8) 0 20 mine ∧ Case (fun h => .bindPin 15#8 h 0#8 2#8 0#8) 0 20 mine
      ∧ Case (fun h => .bindPin 15#8 h 0#8 0#8 16#8) 0 20 mine ∧ Case (fun h => .bindPin 15#8 h 1#8 0#8 16#8) 0 20 count
      ∧ Busy (fun h => .bindPin 0#8 h 1#8 1#8 0#8) 0 20 ∧ busy.pins[(0 : Pin)].binding ≠ none
      ∧ Busy (fun h => .bindPin 15#8 h 1#8 1#8 0#8) 0 24 ∧ (busy.pins[(1 : Pin)].binding.any fun b => b.slot = 24) = true
      ∧ Case (fun h => .bindPin 15#8 h 0#8 1#8 15#8) 0 20 { mine with locked := true }
      ∧ Case (fun h => .bindPin 15#8 h 0#8 1#8 15#8) 0 20 mine
      ∧ Case (fun h => .bindPin 15#8 h 0#8 1#8 15#8) 0 20 { mine with owner := .nobody }
      ∧ Case (fun h => .bindPin 0#8 h 0#8 0#8 0#8) 0 127 { mine with owner := .port 0 }
      ∧ (∀ g : Pin, (base.pins[g].binding.any fun b => b.slot = 20) = false ∧ base.pins[g].binding = none)
      ∧ (let s := ask (put busy 20 { mine with owner := .nobody, domain := some 2 }) 0 (.bindPin 15#8 (hd 20) 0#8 1#8 0#8);
          Takes s 0 0x77#8 (.bindPin 15#8 (hd 20) 0#8 1#8 0#8) [] ∧ s.domainHeld (some 2) = true)
      ∧ Case (fun h => .bindPin 15#8 h 1#8 0#8 255#8) 0 20 mine ∧ Case (fun h => .bindPin 15#8 h 1#8 1#8 0#8) 0 127 mine
      ∧ (0#8) = levelByte .low ∧ (1#8) = levelByte .high ∧ (1#8) ≠ 0#8 := by
  unfold Case Busy Takes Names
  repeat' apply And.intro
  all_goals decide +kernel

theorem witness_UnbindPinOutcomes :
    Asked 0 (.unbindPin 16#8) ∧ Asked 0 (.unbindPin 15#8) ∧ busy.pins[(15 : Pin)].binding = none ∧ Asked 0 (.unbindPin 0#8)
      ∧ busy.pins[(0 : Pin)].binding = some { slot := 23, dir := .input 2, active := .high, serial := 1#8 }
      ∧ busy.slots[(23 : SlotNo)].record = some (busyAt 23) ∧ Asked 0 (.unbindPin 1#8)
      ∧ busy.pins[(1 : Pin)].binding = some { slot := 24, dir := .output, active := .low, serial := 1#8 }
      ∧ busy.slots[(24 : SlotNo)].record = some (busyAt 24) := by
  unfold Asked Takes
  repeat' apply And.intro
  all_goals decide +kernel

theorem witness_EvictOutcomes :
    Asked 0 (.evict 6#8) ∧ Asked 0 (.evict 0#8) ∧ Asked 0 (.evict 5#8) ∧ busy.ports[(5 : Port)].enabled = true
      ∧ (let s := ask (busy.modPort 5 fun q => { q with enabled := false, link := .off }) 0 (.evict 5#8);
          Takes s 0 0x77#8 (.evict 5#8) [] ∧ s.ports[(5 : Port)].enabled = false) := by
  unfold Asked Takes
  repeat' apply And.intro
  all_goals decide +kernel

/-! ### Bytes and invariants -/

/-- A READ_GROUP of 255 handles, and a body that is a command. -/
theorem witness_SubmitBodiesReadBack :
    (∀ hs, Command.readGroup (List.replicate 255 (hd 20)) = .readGroup hs → hs.length < 256)
      ∧ decodeSubmit [0x77#8, 0x41#8] = some (0x77#8, .acquire) := by
  refine ⟨fun hs h => ?_, by decide⟩
  cases h
  rw [List.length_replicate]
  decide

/-- Bodies of 0 and 40 bytes, kinds at both ends; selections of 0 and 1 byte, lengths 40, 41 and 255, a CRC byte missing, and a
wrong CRC byte. -/
theorem witness_FramesReadBack :
    (List.replicate 40 0#8 : List Byte).length ≤ 40 ∧ ([] : List Byte).length ≤ 40 ∧ (0xC0#8).toNat < 0xC1
      ∧ 0xC5 < (0xC6#8).toNat
      ∧ ([] : List Byte).length < 2 ∧ [0xC1#8].length < 2 ∧ 40 < (41#8).toNat ∧ 40 < (255#8).toNat ∧ (40#8).toNat ≤ 40
      ∧ [0xC1#8, 0#8].length < 3 + (0#8).toNat ∧ (0xC1#8 :: 40#8 :: List.replicate 40 0#8).length < 3 + (40#8).toNat
      ∧ [0x2E#8] = [] ++ 0x2E#8 :: [] ∧ 0x2E#8 ≠ crc8 (0xC1#8 :: 0#8 :: []) := by
  decide +kernel

/-- The busy part with LP2's ACQUIRE in front of the queue of waiting steps. -/
def queued : State :=
  ported busy 2 (fun q => { q with link := .opened, submit := [{ tag := 0x77#8, command := .acquire }] }) [.acquire 2]

/-- The step that `queued` takes goes on, with RST# high throughout. -/
theorem queued_steps : ∃ t, step queued = .next t ∧ t.rstLow = false := ⟨_, rfl, by decide +kernel⟩

theorem witness_StepsKeepQueuesWithin : QueuesWithin queued ∧ ∃ t, step queued = .next t :=
  ⟨by unfold QueuesWithin; decide +kernel, _, rfl⟩
theorem witness_StepsKeepIdMapExact : IdMapExact queued ∧ ∃ t, step queued = .next t := ⟨with_idMap busy_idMap _ _ _, _, rfl⟩
theorem witness_StepsKeepSystemRecords : SystemRecordsStand queued ∧ ∃ t, step queued = .next t := ⟨with_system busy_system _ _ _, _, rfl⟩
theorem witness_StepsKeepServiceListsOrdered : ServiceListsOrdered queued ∧ ∃ t, step queued = .next t :=
  ⟨with_service busy_service _ _ _, _, rfl⟩
theorem witness_StepsKeepOverdueCounted :
    SystemRecordsStand queued ∧ ServiceListsOrdered queued ∧ OverdueCounted queued ∧ ∃ t, step queued = .next t :=
  ⟨with_system busy_system _ _ _, with_service busy_service _ _ _, with_overdue busy_overdue _ _ _, _, rfl⟩
theorem witness_StepsKeepHeldAtDefault : HeldAtDefault queued ∧ ∃ t, step queued = .next t := ⟨with_held busy_held _ _ _, _, rfl⟩
theorem witness_StepsKeepAwaitedAreGuards : AwaitedAreGuards queued ∧ ∃ t, step queued = .next t := ⟨with_awaited busy_awaited _ _ _, _, rfl⟩
theorem witness_StepsKeepBindingsStand : BindingsStand queued ∧ ∃ t, step queued = .next t := ⟨with_bindings busy_bindings _ _ _, _, rfl⟩
theorem witness_StepsKeepOutputsFollow :
    BindingsStand queued ∧ OutputsFollow queued ∧ ∃ t, step queued = .next t := ⟨with_bindings busy_bindings _ _ _, with_outputs busy_outputs _ _ _, _, rfl⟩
theorem witness_StepsKeepDrainingInService :
    SystemRecordsStand queued ∧ BindingsStand queued ∧ DrainingInService queued ∧ ∃ t, step queued = .next t :=
  ⟨with_system busy_system _ _ _, with_bindings busy_bindings _ _ _, with_draining busy_draining _ _ _, _, rfl⟩
theorem witness_StepsKeepPoolAndMarks : PoolWithin queued ∧ MarksCounted queued ∧ ∃ t, step queued = .next t :=
  ⟨by unfold PoolWithin; decide +kernel, with_marks busy_marks _ _ _, _, rfl⟩
theorem witness_StrapsAndGenerationsStand :
    queued.rstLow = false ∧ ∃ t, step queued = .next t ∧ t.rstLow = false := ⟨by decide +kernel, queued_steps⟩
theorem witness_LockedRecordsStandUntilColdReset :
    BindingsStand queued ∧ queued.rstLow = false ∧ (∃ t, step queued = .next t ∧ t.rstLow = false)
      ∧ (busyAt 24).locked = true ∧ (busyAt 24).state = .live :=
  ⟨with_bindings busy_bindings _ _ _, by decide +kernel, queued_steps, by decide +kernel, by decide +kernel⟩

end Sys2Proof.Tests
end

section
/-! Readings of the state after an elementary update, and what the shared operations leave of each record, pin and port. -/

namespace Sys2Proof.Machine

open Sys2Proof

/-- A vector after one place is set, read at any place. -/
theorem set_get {α : Type} {n : Nat} (v : Vector α n) (i j : Fin n) (x : α) :
    (v.set i x)[j] = if j = i then x else v[j] := by
  simp only [Fin.getElem_fin, Vector.getElem_set, Fin.ext_iff, eq_comm]

/-- Two vectors with the same entries are the same. -/
theorem vector_ext {α : Type} {n : Nat} {v w : Vector α n} (h : ∀ i : Fin n, v[i] = w[i]) : v = w :=
  Vector.ext fun i hi => h ⟨i, hi⟩

/-- A tabulated vector read at a place. -/
theorem ofFn_get {α : Type} {n : Nat} (f : Fin n → α) (i : Fin n) : (Vector.ofFn f)[i] = f i := by
  simp

theorem replicate_get {α : Type} {n : Nat} (a : α) (i : Fin n) : (Vector.replicate n a)[i] = a := by
  simp

/-- Setting a place to what it holds alters nothing. -/
theorem set_same {α : Type} {n : Nat} (v : Vector α n) (i : Fin n) : v.set i v[i] = v := by
  simp

variable (s : State)

theorem State.modRecord_record (i j : SlotNo) (f : Record → Record) :
    (s.modRecord i f).slots[j].record = if j = i then s.slots[i].record.map f else s.slots[j].record := by
  rw [State.modRecord_get]
  split <;> rfl

theorem State.modRecord_gen (i j : SlotNo) (f : Record → Record) :
    (s.modRecord i f).slots[j].gen = s.slots[j].gen := by
  rw [State.modRecord_get]
  split
  · next h => rw [h]
  · rfl

/-! ## Bindings -/

/-- The pin found for a slot is bound to it. -/
theorem State.boundPin_some {i : SlotNo} {g : Pin} (h : s.boundPin i = some g) :
    ∃ b, s.pins[g].binding = some b ∧ b.slot = i := by
  have hg := List.find?_some h
  split at hg
  · next b hb => exact ⟨b, hb, by simpa using hg⟩
  · cases hg

/-- Where no pin is found for a slot, none is bound to it. -/
theorem State.boundPin_none {i : SlotNo} (h : s.boundPin i = none) (g : Pin) (b : Binding)
    (hb : s.pins[g].binding = some b) : b.slot ≠ i := by
  have hg := List.find?_eq_none.mp h g (List.mem_finRange g)
  rw [hb] at hg
  simpa using hg

/-- Each record is bound to at most one pin (R109). -/
def BoundOnce (s : State) : Prop :=
  ∀ g h : Pin, ∀ b ∈ s.pins[g].binding, ∀ c ∈ s.pins[h].binding, b.slot = c.slot → g = h

/-- The pin bound to a slot is the one found for it. -/
theorem State.boundPin_of_binding (hu : BoundOnce s) {g : Pin} {b : Binding} (hb : s.pins[g].binding = some b) :
    s.boundPin b.slot = some g := by
  cases h : s.boundPin b.slot with
  | none => exact absurd rfl (State.boundPin_none s h g b hb)
  | some g' =>
    obtain ⟨b', hb', hs⟩ := State.boundPin_some s h
    rw [hu g' g b' hb' b hb hs]

theorem BindingsStand.boundOnce {s : State} (h : BindingsStand s) : BoundOnce s := h.2.1

/-! ## Output drive -/

/-- Handing a value to the Pin Bridge reads as: the OUTPUT pin found for the slot follows it. -/
theorem State.drivePin_get (i : SlotNo) (v : Byte) (g : Pin) :
    (s.drivePin i v).pins[g] =
      match s.pins[g].binding with
      | none => s.pins[g]
      | some b =>
        if b.dir = .output ∧ s.boundPin i = some g then
          { s.pins[g] with driver := .driving (driveLevel b.active v) }
        else s.pins[g] := by
  unfold State.drivePin
  cases hp : s.boundPin i with
  | none => cases s.pins[g].binding <;> simp
  | some g' =>
    obtain ⟨b', hb', -⟩ := State.boundPin_some s hp
    by_cases hg : g = g'
    · subst hg
      cases hd : b'.dir with
      | input f => simp only [hb', hd, reduceCtorEq, false_and, if_false]
      | output => simp only [hb', hd, State.modPin_get, if_true, and_self]
    · have hg' : ¬ g' = g := fun e => hg e.symm
      cases hd : b'.dir with
      | input f =>
        simp only [hb', hd, Option.some.injEq, hg', and_false, if_false]
        cases s.pins[g].binding <;> rfl
      | output =>
        simp only [hb', hd, State.modPin_get, if_neg hg, Option.some.injEq, hg', and_false, if_false]
        cases s.pins[g].binding <;> rfl

@[simp] theorem State.drivePin_ports (i : SlotNo) (v : Byte) : (s.drivePin i v).ports = s.ports := by
  rw [State.drivePin_frame]

/-! ## The change -/

section change
variable (i : SlotNo) (v : Byte) (n : Nat)

@[simp] theorem State.change_rstLow : (s.change i v n).rstLow = s.rstLow := by rw [State.change_frame]
@[simp] theorem State.change_idMap : (s.change i v n).idMap = s.idMap := by rw [State.change_frame]
@[simp] theorem State.change_services : (s.change i v n).services = s.services := by rw [State.change_frame]
@[simp] theorem State.change_domains : (s.change i v n).domains = s.domains := by rw [State.change_frame]
@[simp] theorem State.change_deadlines : (s.change i v n).deadlines = s.deadlines := by rw [State.change_frame]
@[simp] theorem State.change_warnings : (s.change i v n).warnings = s.warnings := by rw [State.change_frame]

/-- The record a change of r, which stands in slot i, leaves (R25, R28). -/
def Record.changed (s : State) (i : SlotNo) (v : Byte) (n : Nat) (r : Record) : Record :=
  { r with
    value := v
    version := r.version + 1
    subs := Vector.ofFn fun p : Port => (r.subs[p]).map fun u => u.afterChange (s.inService p i) r.value v n }

theorem State.change_get (j : SlotNo) :
    (s.change i v n).slots[j] =
      if j = i then { s.slots[i] with record := s.slots[i].record.map (Record.changed s i v n) } else s.slots[j] := by
  cases h : s.slots[i].record with
  | none =>
    rw [State.change_free s i v n h]
    split
    · next hj => rw [hj, Option.map_none, ← h]
    · rfl
  | some r => rw [State.change_slots s i v n r h, set_get]; rfl

theorem State.change_gen (j : SlotNo) : (s.change i v n).slots[j].gen = s.slots[j].gen := by
  rw [State.change_get]
  split
  · next hj => rw [hj]
  · rfl

theorem State.change_record (j : SlotNo) :
    (s.change i v n).slots[j].record =
      if j = i then s.slots[i].record.map (Record.changed s i v n) else s.slots[j].record := by
  rw [State.change_get]
  split <;> rfl

/-- What a change leaves of a pin: it follows if it is the OUTPUT pin found for a slot that holds a record (R28). -/
theorem State.change_pin (g : Pin) :
    (s.change i v n).pins[g] =
      match s.pins[g].binding with
      | none => s.pins[g]
      | some b =>
        if b.dir = .output ∧ s.boundPin i = some g ∧ s.slots[i].record.isSome = true then
          { s.pins[g] with driver := .driving (driveLevel b.active v) }
        else s.pins[g] := by
  cases h : s.slots[i].record with
  | none =>
    rw [State.change_free s i v n h]
    cases s.pins[g].binding <;> simp
  | some r =>
    simp only [State.change, h]
    rw [State.drivePin_get]
    simp only [State.oweWhere_pins, State.modRecord_pins, Option.isSome_some, and_true]
    rfl

/-- What a change leaves of a port: an indication is owed where a pending mark came or went (R58). -/
theorem State.change_port (q : Port) :
    (s.change i v n).ports[q] =
      if isPending ((s.change i v n).subAt i q) = isPending (s.subAt i q) then s.ports[q]
      else { s.ports[q] with inIndication := some false } := by
  cases h : s.slots[i].record with
  | none => rw [State.change_free s i v n h, if_pos rfl]
  | some r =>
    have hl : (s.change i v n).subAt i q = (Record.changed s i v n r).subs[q] := by
      simp only [State.subAt, State.change_record, if_true, h, Option.map_some]
    have hr : s.subAt i q = r.subs[q] := by simp only [State.subAt, h]
    rw [hl, hr]
    simp only [State.change, h, Record.changed, ofFn_get, bne_iff_ne, ne_eq, ite_not, State.drivePin_ports,
      State.oweWhere_ports, State.modRecord_ports]

end change

/-! ## A value given -/

section setValue
variable (i : SlotNo) (v : Byte)

/-- A record given a value makes one change, or none (R27). -/
theorem State.setValue_eq : s.setValue i v = if s.valueAt i = v then s else s.change i v 0 := by
  split
  · next h => exact State.setValue_same s i v h
  · next h => exact State.setValue_differs s i v h

@[simp] theorem State.setValue_rstLow : (s.setValue i v).rstLow = s.rstLow := by
  rw [State.setValue_eq]; split <;> simp
@[simp] theorem State.setValue_idMap : (s.setValue i v).idMap = s.idMap := by
  rw [State.setValue_eq]; split <;> simp
@[simp] theorem State.setValue_services : (s.setValue i v).services = s.services := by
  rw [State.setValue_eq]; split <;> simp
@[simp] theorem State.setValue_domains : (s.setValue i v).domains = s.domains := by
  rw [State.setValue_eq]; split <;> simp
@[simp] theorem State.setValue_deadlines : (s.setValue i v).deadlines = s.deadlines := by
  rw [State.setValue_eq]; split <;> simp
@[simp] theorem State.setValue_warnings : (s.setValue i v).warnings = s.warnings := by
  rw [State.setValue_eq]; split <;> simp

end setValue

/-! ## A subscription altered -/

section updSub
variable (i : SlotNo) (p : Port) (f : Option Sub → Option Sub)

theorem State.updSub_free (h : s.slots[i].record = none) : s.updSub i p f = s := by
  simp only [State.updSub, h]

theorem State.updSub_frame :
    s.updSub i p f = { s with slots := (s.updSub i p f).slots, ports := (s.updSub i p f).ports } := by
  cases h : s.slots[i].record with
  | none => rw [State.updSub_free s i p f h]
  | some r => rw [State.updSub_spec s i p f r h]

@[simp] theorem State.updSub_rstLow : (s.updSub i p f).rstLow = s.rstLow := by rw [State.updSub_frame]
@[simp] theorem State.updSub_idMap : (s.updSub i p f).idMap = s.idMap := by rw [State.updSub_frame]
@[simp] theorem State.updSub_services : (s.updSub i p f).services = s.services := by rw [State.updSub_frame]
@[simp] theorem State.updSub_domains : (s.updSub i p f).domains = s.domains := by rw [State.updSub_frame]
@[simp] theorem State.updSub_deadlines : (s.updSub i p f).deadlines = s.deadlines := by rw [State.updSub_frame]
@[simp] theorem State.updSub_warnings : (s.updSub i p f).warnings = s.warnings := by rw [State.updSub_frame]
@[simp] theorem State.updSub_pins : (s.updSub i p f).pins = s.pins := by rw [State.updSub_frame]

theorem State.updSub_record (j : SlotNo) :
    (s.updSub i p f).slots[j].record =
      if j = i then s.slots[i].record.map fun r => { r with subs := r.subs.set p (f r.subs[p]) }
      else s.slots[j].record := by
  cases h : s.slots[i].record with
  | none =>
    rw [State.updSub_free s i p f h]
    split
    · next hj => rw [hj, h]; rfl
    · rfl
  | some r =>
    rw [State.updSub_spec s i p f r h, set_get]
    split <;> rfl

theorem State.updSub_gen (j : SlotNo) : (s.updSub i p f).slots[j].gen = s.slots[j].gen := by
  cases h : s.slots[i].record with
  | none => rw [State.updSub_free s i p f h]
  | some r =>
    rw [State.updSub_spec s i p f r h, set_get]
    split
    · next hj => rw [hj]
    · rfl

/-- Altering a subscription owes at most an indication to its port. -/
theorem State.updSub_port (q : Port) :
    (s.updSub i p f).ports[q] =
      if q = p ∧ isPending ((s.updSub i p f).subAt i p) ≠ isPending (s.subAt i p) then
        { s.ports[q] with inIndication := some false }
      else s.ports[q] := by
  cases h : s.slots[i].record with
  | none => rw [State.updSub_free s i p f h]; simp
  | some r =>
    have hl : (s.updSub i p f).subAt i p = f r.subs[p] := by
      simp only [State.subAt, State.updSub_record, if_true, h, Option.map_some, set_get]
    have hr : s.subAt i p = r.subs[p] := by simp only [State.subAt, h]
    rw [hl, hr, State.updSub_spec s i p f r h]
    by_cases hp : isPending (f r.subs[p]) = isPending r.subs[p]
    · simp only [hp, if_true, ne_eq, not_true_eq_false, and_false, if_false]
    · simp only [if_neg hp]
      rw [set_get]
      by_cases hq : q = p
      · rw [if_pos hq, if_pos ⟨hq, hp⟩, hq]
      · rw [if_neg hq, if_neg fun c => hq c.1]

end updSub

/-! ## A slot freed -/

section freeSlot
variable (i : SlotNo)

theorem State.freeSlot_free (h : s.slots[i].record = none) : s.freeSlot i = s := by
  simp only [State.freeSlot, h]

theorem State.freeSlot_frame :
    s.freeSlot i = { s with slots := (s.freeSlot i).slots, idMap := (s.freeSlot i).idMap } := by
  cases h : s.slots[i].record with
  | none => rw [State.freeSlot_free s i h]
  | some r => rw [State.freeSlot_spec s i r h]

@[simp] theorem State.freeSlot_rstLow : (s.freeSlot i).rstLow = s.rstLow := by rw [State.freeSlot_frame]
@[simp] theorem State.freeSlot_services : (s.freeSlot i).services = s.services := by rw [State.freeSlot_frame]
@[simp] theorem State.freeSlot_domains : (s.freeSlot i).domains = s.domains := by rw [State.freeSlot_frame]
@[simp] theorem State.freeSlot_deadlines : (s.freeSlot i).deadlines = s.deadlines := by rw [State.freeSlot_frame]
@[simp] theorem State.freeSlot_warnings : (s.freeSlot i).warnings = s.warnings := by rw [State.freeSlot_frame]
@[simp] theorem State.freeSlot_pins : (s.freeSlot i).pins = s.pins := by rw [State.freeSlot_frame]
@[simp] theorem State.freeSlot_ports : (s.freeSlot i).ports = s.ports := by rw [State.freeSlot_frame]

theorem State.freeSlot_get (j : SlotNo) :
    (s.freeSlot i).slots[j] = if j = i then { gen := s.slots[i].gen, record := none } else s.slots[j] := by
  cases h : s.slots[i].record with
  | none =>
    rw [State.freeSlot_free s i h]
    split
    · next hj => rw [hj, ← h]
    · rfl
  | some r => rw [State.freeSlot_spec s i r h, set_get]

theorem State.freeSlot_record (j : SlotNo) :
    (s.freeSlot i).slots[j].record = if j = i then none else s.slots[j].record := by
  rw [State.freeSlot_get]
  split <;> rfl

theorem State.freeSlot_gen (j : SlotNo) : (s.freeSlot i).slots[j].gen = s.slots[j].gen := by
  rw [State.freeSlot_get]
  split
  · next hj => rw [hj]
  · rfl

end freeSlot

end Sys2Proof.Machine
end

section
/-! What the shared operations of several stages leave: the subscriptions of one record altered port by port, the end of a
binding, and the retirement of a record (R16, R17). -/

namespace Sys2Proof.Machine

open Sys2Proof

variable (s : State)

/-! ## Every subscription of one record -/

/-- The state after the subscription of each port on slot i, which holds r, has been altered by `f`: an indication is owed to
each port whose pending mark came or went. -/
def State.withSubs (s : State) (i : SlotNo) (r : Record) (f : Port → Option Sub → Option Sub) : State :=
  { s with
    slots := s.slots.set i { s.slots[i] with record := some { r with subs := Vector.ofFn fun q => f q r.subs[q] } }
    ports := Vector.ofFn fun q : Port =>
      if isPending (f q r.subs[q]) = isPending r.subs[q] then s.ports[q]
      else { s.ports[q] with inIndication := some false } }

/-- Two states that differ from a third in slots and ports alone are the same where these are. -/
theorem State.eq_of_slots_ports {s t u : State} (ht : t = { s with slots := t.slots, ports := t.ports })
    (hu : u = { s with slots := u.slots, ports := u.ports }) (hs : t.slots = u.slots) (hp : t.ports = u.ports) : t = u :=
  calc t = { s with slots := t.slots, ports := t.ports } := ht
    _ = { s with slots := u.slots, ports := u.ports } := by rw [hs, hp]
    _ = u := hu.symm

/-- Altering one subscription is altering all of them by the identity but one. -/
theorem State.updSub_withSubs (i : SlotNo) (p : Port) (f : Option Sub → Option Sub) (r : Record)
    (h : s.slots[i].record = some r) :
    s.updSub i p f = s.withSubs i r fun q o => if q = p then f o else o := by
  rw [State.updSub_spec s i p f r h]
  have hs : r.subs.set p (f r.subs[p]) = Vector.ofFn fun q : Port => if q = p then f r.subs[q] else r.subs[q] := by
    apply vector_ext
    intro q
    rw [set_get, ofFn_get]
    split
    · next hq => rw [hq]
    · rfl
  have hp : (if isPending (f r.subs[p]) = isPending r.subs[p] then s.ports
      else s.ports.set p { s.ports[p] with inIndication := some false })
      = Vector.ofFn fun q : Port =>
        if isPending (if q = p then f r.subs[q] else r.subs[q]) = isPending r.subs[q] then s.ports[q]
        else { s.ports[q] with inIndication := some false } := by
    apply vector_ext
    intro q
    rw [ofFn_get]
    by_cases hq : q = p
    · subst hq
      rw [if_pos rfl]
      split
      · rfl
      · rw [set_get, if_pos rfl]
    · rw [if_neg hq, if_pos rfl]
      split
      · rfl
      · rw [set_get, if_neg hq]
  rw [hs, hp]
  rfl

/-- Two alterations in turn are one, where no mark is touched by both. -/
theorem State.withSubs_withSubs (i : SlotNo) (r : Record) (f g : Port → Option Sub → Option Sub)
    (hd : ∀ q o, isPending (g q (f q o)) = isPending (f q o) ∨ f q o = o) :
    (s.withSubs i r f).withSubs i { r with subs := Vector.ofFn fun q => f q r.subs[q] } g
      = s.withSubs i r fun q o => g q (f q o) := by
  have hslots : ((s.withSubs i r f).withSubs i { r with subs := Vector.ofFn fun q => f q r.subs[q] } g).slots
      = (s.withSubs i r fun q o => g q (f q o)).slots := by
    apply vector_ext
    intro j
    simp only [State.withSubs, set_get, ofFn_get, if_true]
    split <;> rfl
  have hports : ((s.withSubs i r f).withSubs i { r with subs := Vector.ofFn fun q => f q r.subs[q] } g).ports
      = (s.withSubs i r fun q o => g q (f q o)).ports := by
    apply vector_ext
    intro q
    simp only [State.withSubs, ofFn_get]
    rcases hd q r.subs[q] with h | h
    · rw [h, if_pos rfl]
    · rw [h, if_pos rfl]
  exact State.eq_of_slots_ports (s := s) rfl rfl hslots hports

/-- The subscriptions altered in turn, each at its own port. -/
theorem State.foldl_updSub (i : SlotNo) (f : Port → Option Sub → Option Sub) (l : List Port) (hl : l.Nodup) (s : State)
    (r : Record) (h : s.slots[i].record = some r) :
    l.foldl (fun t p => t.updSub i p (f p)) s = s.withSubs i r fun q o => if q ∈ l then f q o else o := by
  induction l generalizing s r with
  | nil =>
    simp only [List.foldl_nil, List.not_mem_nil, if_false, State.withSubs, if_true]
    have hr : ({ r with subs := Vector.ofFn fun q : Port => r.subs[q] } : Record) = r := by
      have : (Vector.ofFn fun q : Port => r.subs[q]) = r.subs := vector_ext fun q => ofFn_get _ q
      rw [this]
    have hi : ({ s.slots[i] with record := some r } : Slot) = s.slots[i] := by rw [← h]
    rw [hr, hi, set_same]
    have : (Vector.ofFn fun q : Port => s.ports[q]) = s.ports := vector_ext fun q => ofFn_get _ q
    rw [this]
  | cons p l ih =>
    obtain ⟨hp, hl⟩ := List.nodup_cons.mp hl
    rw [List.foldl_cons, State.updSub_withSubs s i p (f p) r h]
    rw [ih hl _ { r with subs := Vector.ofFn fun q => if q = p then f p r.subs[q] else r.subs[q] } (by
      simp only [State.withSubs, set_get, if_true])]
    rw [State.withSubs_withSubs s i r (fun q o => if q = p then f p o else o) (fun q o => if q ∈ l then f q o else o)]
    · congr 1
      funext q o
      by_cases hq : q = p
      · subst hq; simp [hp]
      · simp [hq]
    · intro q o
      by_cases hq : q = p
      · subst hq; exact .inl (by simp [hp])
      · exact .inr (by simp [hq])

/-- The subscriptions of every port altered in turn. -/
theorem State.foldl_updSub_all (i : SlotNo) (f : Port → Option Sub → Option Sub) (r : Record)
    (h : s.slots[i].record = some r) :
    (List.finRange 6).foldl (fun t p => t.updSub i p (f p)) s = s.withSubs i r f := by
  rw [State.foldl_updSub i f _ (List.nodup_finRange 6) s r h]
  simp only [List.mem_finRange, if_true]

/-! ## The end of a binding -/

/-- The binding b of pin g ends: the pin is unbound, and a record with an INPUT binding is left owned by NONE (R17, R120). -/
def State.unbindFrom (s : State) (g : Pin) (b : Binding) : State :=
  match b.dir with
  | .input _ => (s.modPin g PinState.unbound).modRecord b.slot fun r => { r with owner := .nobody }
  | .output => s.modPin g PinState.unbound

theorem State.endBinding_eq (i : SlotNo) :
    (s.boundPin i = none ∧ s.endBinding i = s)
      ∨ ∃ g b, s.boundPin i = some g ∧ s.pins[g].binding = some b ∧ b.slot = i ∧ s.endBinding i = s.unbindFrom g b := by
  unfold State.endBinding
  cases h : s.boundPin i with
  | none => exact .inl ⟨rfl, rfl⟩
  | some g =>
    obtain ⟨b, hb, rfl⟩ := State.boundPin_some s h
    refine .inr ⟨g, b, rfl, hb, rfl, ?_⟩
    cases hd : b.dir <;> simp only [hb, State.unbindFrom, hd]

theorem State.inputBound_of (i : SlotNo) {g : Pin} {b : Binding} (hg : s.boundPin i = some g)
    (hb : s.pins[g].binding = some b) : s.inputBound i = decide (b.dir ≠ .output) := by
  simp only [State.inputBound, hg, hb]
  cases b.dir <;> simp

/-- Nothing but slots and pins differs when a binding ends. -/
theorem State.endBinding_frame (i : SlotNo) :
    s.endBinding i = { s with slots := (s.endBinding i).slots, pins := (s.endBinding i).pins } := by
  rcases State.endBinding_eq s i with ⟨-, h⟩ | ⟨g, b, -, -, -, h⟩
  · rw [h]
  · rw [h]
    unfold State.unbindFrom
    split <;> rfl

/-- A binding's end leaves each record as it is, but for the owner of an INPUT-bound one. -/
theorem State.endBinding_slot (i j : SlotNo) :
    (s.endBinding i).slots[j] =
      if j = i then
        { s.slots[i] with
          record := s.slots[i].record.map fun r => { r with owner := if s.inputBound i = true then .nobody else r.owner } }
      else s.slots[j] := by
  have hsame : ({ s.slots[i] with record := s.slots[i].record.map fun r => { r with owner := r.owner } } : Slot)
      = s.slots[i] := by
    show ({ s.slots[i] with record := s.slots[i].record.map id } : Slot) = s.slots[i]
    rw [Option.map_id, id]
  rcases State.endBinding_eq s i with ⟨hn, h⟩ | ⟨g, b, hg, hb, hs, h⟩
  · have hi : s.inputBound i = false := by simp only [State.inputBound, hn]
    simp only [h, hi, reduceCtorEq, if_false]
    rw [hsame]
    split
    · next hj => rw [hj]
    · rfl
  · rw [h, State.inputBound_of s i hg hb]
    unfold State.unbindFrom
    cases hd : b.dir with
    | input f =>
      simp only [State.modRecord_get, hs, State.modPin_slots, ne_eq, reduceCtorEq, not_false_eq_true, decide_true, if_true]
    | output =>
      simp only [State.modPin_slots, ne_eq, not_true_eq_false, decide_false, Bool.false_eq_true, if_false]
      rw [hsame]
      split
      · next hj => rw [hj]
      · rfl

/-- A binding's end leaves each pin as it is, but for the one bound to the slot. -/
theorem State.endBinding_pin (hu : BoundOnce s) (i : SlotNo) (g : Pin) :
    (s.endBinding i).pins[g] =
      if (s.pins[g].binding.any fun b => b.slot = i) = true then (s.pins[g]).unbound else s.pins[g] := by
  rcases State.endBinding_eq s i with ⟨hn, h⟩ | ⟨g', b, hg, hb, hs, h⟩
  · rw [h]
    cases hb : s.pins[g].binding with
    | none => rfl
    | some b => rw [Option.any_some, if_neg (by simpa using State.boundPin_none s hn g b hb)]
  · have hp : (s.endBinding i).pins[g] = if g = g' then (s.pins[g']).unbound else s.pins[g] := by
      rw [h]
      unfold State.unbindFrom
      cases b.dir <;> simp only [State.modRecord_pins, State.modPin_get]
    rw [hp]
    by_cases hgg : g = g'
    · subst hgg
      rw [if_pos rfl, hb, Option.any_some, if_pos (by simpa using hs)]
    · rw [if_neg hgg]
      cases hc : s.pins[g].binding with
      | none => rfl
      | some c =>
        have hne : c.slot ≠ i := fun e => hgg (hu g g' c hc b hb (e.trans hs.symm))
        rw [Option.any_some, if_neg (by simpa using hne)]

/-! ## Retirement -/

/-- A subscription without its mark. -/
def unmarked (o : Option Sub) : Option Sub := o.map fun u => { u with mark := none }

theorem isPending_unmarked (o : Option Sub) : isPending (unmarked o) = false := by
  cases o <;> rfl

theorem State.clearMark_eq (i : SlotNo) (p : Port) : s.clearMark i p = s.updSub i p unmarked := rfl

/-- What a retirement leaves of the subscription of q on slot i: one in service stands without its mark (R16). -/
def State.retiredSub (s : State) (i : SlotNo) (q : Port) (o : Option Sub) : Option Sub :=
  if s.inService q i = true then unmarked o else none

/-- The record a retirement leaves where a subscription is in service (R16, R17). -/
def State.retiredRecord (s : State) (i : SlotNo) (r : Record) : Record :=
  { r with
    state := .draining
    owner := if s.inputBound i = true then .nobody else r.owner
    subs := Vector.ofFn fun q : Port => s.retiredSub i q r.subs[q] }

theorem State.isPending_retiredSub (i : SlotNo) (q : Port) (o : Option Sub) : isPending (s.retiredSub i q o) = false := by
  unfold State.retiredSub
  split
  · exact isPending_unmarked o
  · rfl

/-- Dropping a subscription unless it is in service is altering it. -/
theorem State.dropIdle_eq (i : SlotNo) (p : Port) :
    s.dropIdle i p = s.updSub i p fun o => if s.inService p i = true then o else none := by
  unfold State.dropIdle
  split
  · cases h : s.slots[i].record with
    | none => rw [State.updSub_free s i p _ h]
    | some r =>
      rw [State.updSub_spec s i p _ r h, if_pos rfl, set_same]
      have hi : ({ s.slots[i] with record := some r } : Slot) = s.slots[i] := by rw [← h]
      rw [hi, set_same]
  · rfl

/-- Dropping in turn, while the service lists stand, is altering each subscription by what is in service at the start. -/
theorem State.foldl_dropIdle (i : SlotNo) (l : List Port) (t : State) (h : t.services = s.services) :
    l.foldl (fun t p => t.dropIdle i p) t
      = l.foldl (fun t p => t.updSub i p fun o => if s.inService p i = true then o else none) t := by
  induction l generalizing t with
  | nil => rfl
  | cons p l ih =>
    have hp : t.inService p i = s.inService p i := by simp only [State.inService, h]
    rw [List.foldl_cons, List.foldl_cons, State.dropIdle_eq, hp]
    exact ih _ (by rw [State.updSub_services, h])

theorem Record.noSubs_iff (r : Record) : r.noSubs = true ↔ ∀ q : Port, r.subs[q] = none := by
  simp only [Record.noSubs, List.all_eq_true, List.mem_finRange, true_implies, Option.isNone_iff_eq_none]

/-- What stages 2 and 3 of a retirement leave (R16): the subscriptions in service, none pending. -/
theorem State.retire_subs (i : SlotNo) (r : Record) (h : s.slots[i].record = some r) :
    (List.finRange 6).foldl (fun t p => t.dropIdle i p) ((List.finRange 6).foldl (fun t p => t.clearMark i p) s)
      = s.withSubs i r (s.retiredSub i) := by
  have hclear := State.foldl_updSub_all s i (fun _ => unmarked) r h
  have hdrop := State.foldl_updSub_all (s.withSubs i r fun _ => unmarked) i
    (fun q o => if s.inService q i = true then o else none)
    { r with subs := Vector.ofFn fun q => unmarked r.subs[q] } (by
      simp only [State.withSubs, set_get, if_true])
  simp only [State.clearMark_eq]
  rw [hclear, State.foldl_dropIdle s i (List.finRange 6) (s.withSubs i r fun _ => unmarked) rfl, hdrop,
    State.withSubs_withSubs s i r (fun _ => unmarked) fun q o => if s.inService q i = true then o else none]
  · rfl
  · intro q o
    refine .inl ?_
    rw [isPending_unmarked]
    split
    · exact isPending_unmarked o
    · rfl

/-- A retirement by its outcome: the binding ends and the marks go; with nothing in service the slot is freed, else the record
is DRAINING (R16). -/
theorem State.retireRecord_eq (i : SlotNo) (r : Record) (h : s.slots[i].record = some r) :
    let r1 : Record := { r with owner := if s.inputBound i = true then .nobody else r.owner }
    s.retireRecord i =
      if ∀ q : Port, s.retiredSub i q r.subs[q] = none then
        ((s.endBinding i).withSubs i r1 (s.retiredSub i)).freeSlot i
      else ((s.endBinding i).withSubs i r1 (s.retiredSub i)).modRecord i fun r => { r with state := .draining } := by
  intro r1
  have h1 : (s.endBinding i).slots[i].record = some r1 := by
    rw [State.endBinding_slot, if_pos rfl, h]; rfl
  have hserv : (s.endBinding i).retiredSub i = s.retiredSub i := by
    have : ∀ q, (s.endBinding i).inService q i = s.inService q i := fun q => by
      rw [State.endBinding_frame]; rfl
    funext q o
    simp only [State.retiredSub, this]
  have h2 := State.retire_subs (s.endBinding i) i r1 h1
  rw [hserv] at h2
  have hno : ((s.endBinding i).withSubs i r1 (s.retiredSub i)).noSubsAt i = true
      ↔ ∀ q : Port, s.retiredSub i q r.subs[q] = none := by
    simp only [State.noSubsAt, State.withSubs, set_get, if_true, Record.noSubs_iff, ofFn_get, r1]
  unfold State.retireRecord
  simp only [h2]
  split
  · next hc => rw [if_pos (hno.mp hc)]
  · next hc => rw [if_neg fun he => hc (hno.mpr he)]

theorem State.withSubs_frame (i : SlotNo) (r : Record) (f : Port → Option Sub → Option Sub) :
    s.withSubs i r f = { s with slots := (s.withSubs i r f).slots, ports := (s.withSubs i r f).ports } := rfl

theorem State.withSubs_slot (i j : SlotNo) (r : Record) (f : Port → Option Sub → Option Sub) :
    (s.withSubs i r f).slots[j] =
      if j = i then { s.slots[i] with record := some { r with subs := Vector.ofFn fun q => f q r.subs[q] } }
      else s.slots[j] := by
  simp only [State.withSubs, set_get]

theorem State.withSubs_port (i : SlotNo) (r : Record) (f : Port → Option Sub → Option Sub) (q : Port) :
    (s.withSubs i r f).ports[q] =
      if isPending (f q r.subs[q]) = isPending r.subs[q] then s.ports[q]
      else { s.ports[q] with inIndication := some false } := by
  simp only [State.withSubs, ofFn_get]

section retired
variable (i : SlotNo) (r : Record)

/-- Nothing but slots, Id Map, pins and ports differs when a record is retired. -/
theorem State.retireRecord_frame (h : s.slots[i].record = some r) :
    s.retireRecord i =
      { s with slots := (s.retireRecord i).slots, idMap := (s.retireRecord i).idMap, pins := (s.retireRecord i).pins
               ports := (s.retireRecord i).ports } := by
  rw [State.retireRecord_eq s i r h]
  split
  · rw [State.freeSlot_frame, State.withSubs_frame, State.endBinding_frame]
  · rw [State.modRecord, State.withSubs_frame, State.endBinding_frame]

theorem State.retireRecord_services (h : s.slots[i].record = some r) : (s.retireRecord i).services = s.services := by
  rw [State.retireRecord_frame s i r h]

theorem State.retireRecord_slot (h : s.slots[i].record = some r) (j : SlotNo) :
    (s.retireRecord i).slots[j] =
      if j = i then
        { gen := s.slots[i].gen
          record := if ∀ q : Port, s.retiredSub i q r.subs[q] = none then none else some (s.retiredRecord i r) }
      else s.slots[j] := by
  have hgen : (s.endBinding i).slots[i].gen = s.slots[i].gen := by rw [State.endBinding_slot, if_pos rfl]
  rw [State.retireRecord_eq s i r h]
  by_cases hno : ∀ q : Port, s.retiredSub i q r.subs[q] = none
  · rw [if_pos hno, if_pos hno, State.freeSlot_get]
    simp only [State.withSubs_slot, if_true, hgen]
    split
    · rfl
    · next hj => rw [State.endBinding_slot, if_neg hj]
  · rw [if_neg hno, if_neg hno, State.modRecord_get]
    simp only [State.withSubs_slot, if_true, hgen, Option.map_some]
    split
    · rfl
    · next hj => rw [State.endBinding_slot, if_neg hj]

theorem State.retireRecord_idMap (h : s.slots[i].record = some r) :
    (s.retireRecord i).idMap =
      if ∀ q : Port, s.retiredSub i q r.subs[q] = none then idErase r.id s.idMap else s.idMap := by
  rw [State.retireRecord_eq s i r h]
  have hid : (s.endBinding i).idMap = s.idMap := by rw [State.endBinding_frame]
  split
  · rw [State.freeSlot_spec _ i { r with
      owner := if s.inputBound i = true then .nobody else r.owner
      subs := Vector.ofFn fun q => s.retiredSub i q r.subs[q] } (by simp only [State.withSubs_slot, if_true])]
    show idErase r.id (s.endBinding i).idMap = _
    rw [hid]
  · exact hid

theorem State.retireRecord_pin (hu : BoundOnce s) (h : s.slots[i].record = some r) (g : Pin) :
    (s.retireRecord i).pins[g] =
      if (s.pins[g].binding.any fun b => b.slot = i) = true then (s.pins[g]).unbound else s.pins[g] := by
  rw [State.retireRecord_eq s i r h, ← State.endBinding_pin s hu]
  split
  · simp only [State.freeSlot_pins]; rfl
  · rfl

theorem State.retireRecord_port (h : s.slots[i].record = some r) (q : Port) :
    (s.retireRecord i).ports[q] =
      if isPending r.subs[q] = true then { s.ports[q] with inIndication := some false } else s.ports[q] := by
  have hp : ∀ q : Port, (s.endBinding i).ports[q] = s.ports[q] := fun q => by rw [State.endBinding_frame]
  rw [State.retireRecord_eq s i r h]
  have key : ((s.endBinding i).withSubs i { r with owner := if s.inputBound i = true then .nobody else r.owner }
      (s.retiredSub i)).ports[q]
      = if isPending r.subs[q] = true then { s.ports[q] with inIndication := some false } else s.ports[q] := by
    simp only [State.withSubs_port, State.isPending_retiredSub, hp, eq_comm (a := false)]
    cases isPending r.subs[q] <;> rfl
  split
  · simp only [State.freeSlot_ports]; exact key
  · exact key

end retired

end Sys2Proof.Machine
end

section
/-! The moves a happening is made of. `Stands` says that two states agree in all the directory's invariants look at; `Move`
lists the alterations of the directory that the stages of every row come to, each with what its row has checked before. -/

namespace Sys2Proof.Machine

open Sys2Proof

/-! ## States that agree -/

/-- Two pins with the same binding and driver, both with a filter or both without. -/
def SameWire (x y : PinState) : Prop :=
  y.binding = x.binding ∧ y.input.isSome = x.input.isSome ∧ y.driver = x.driver

theorem SameWire.refl (x : PinState) : SameWire x x := ⟨rfl, rfl, rfl⟩

theorem SameWire.agrees {x y : PinState} (h : SameWire x y) (hx : WireAgrees x) : WireAgrees y := by
  obtain ⟨hb, hi, hd⟩ := h
  have hn : x.input = none → y.input = none := fun e => by
    rw [e, Option.isSome_none, Option.isSome_eq_false_iff, Option.isNone_iff_eq_none] at hi
    exact hi
  unfold WireAgrees at hx ⊢
  rw [hb, hd, hi]
  split
  · next hc => rw [hc] at hx; exact ⟨hn hx.1, hx.2⟩
  · next b hc =>
    rw [hc] at hx
    split
    · next f hf => simp only [hf] at hx; exact hx
    · next hf => simp only [hf] at hx; exact ⟨hn hx.1, hx.2⟩

/-- From s to t nothing has moved that the directory's invariants look at: no slot, no Id Map, no state of a domain, no
binding and no driver, no strap; and no slot has left a service list. -/
structure Stands (s t : State) : Prop where
  rstLow : t.rstLow = s.rstLow
  idMap : t.idMap = s.idMap
  slots : t.slots = s.slots
  domains : ∀ d : Dom, t.domains[d].state = s.domains[d].state
  pins : ∀ g : Pin, SameWire s.pins[g] t.pins[g]
  straps : ∀ p : Port, t.ports[p].enabled = s.ports[p].enabled ∧ t.ports[p].cls = s.ports[p].cls
  service : ∀ (p : Port) (i : SlotNo), s.inService p i = true → t.inService p i = true

theorem Stands.refl (s : State) : Stands s s :=
  ⟨rfl, rfl, rfl, fun _ => rfl, fun _ => .refl _, fun _ => ⟨rfl, rfl⟩, fun _ _ h => h⟩

/-- What of a record neither a change nor a subscription alters. -/
def Record.form (r : Record) : Record := { r with value := 0#8, version := 0#16, subs := Vector.replicate 6 none }

/-- From s to t every record keeps its form, every pin its binding, and the Id Map and the straps stand. -/
structure Steady (s t : State) : Prop where
  rstLow : t.rstLow = s.rstLow
  idMap : t.idMap = s.idMap
  gen : ∀ i : SlotNo, t.slots[i].gen = s.slots[i].gen
  form : ∀ i : SlotNo, t.slots[i].record.map Record.form = s.slots[i].record.map Record.form
  binding : ∀ g : Pin, t.pins[g].binding = s.pins[g].binding
  wire : ∀ g : Pin, WireAgrees s.pins[g] → WireAgrees t.pins[g]
  straps : ∀ p : Port, t.ports[p].enabled = s.ports[p].enabled ∧ t.ports[p].cls = s.ports[p].cls

theorem Steady.refl (s : State) : Steady s s :=
  ⟨rfl, rfl, fun _ => rfl, fun _ => rfl, fun _ => rfl, fun _ h => h, fun _ => ⟨rfl, rfl⟩⟩

theorem Steady.trans {s t u : State} (h : Steady s t) (k : Steady t u) : Steady s u :=
  ⟨k.rstLow.trans h.rstLow, k.idMap.trans h.idMap, fun i => (k.gen i).trans (h.gen i),
    fun i => (k.form i).trans (h.form i), fun g => (k.binding g).trans (h.binding g), fun g w => k.wire g (h.wire g w),
    fun p => ⟨(k.straps p).1.trans (h.straps p).1, (k.straps p).2.trans (h.straps p).2⟩⟩

theorem Stands.steady {s t : State} (h : Stands s t) : Steady s t :=
  ⟨h.rstLow, h.idMap, fun i => by rw [h.slots], fun i => by rw [h.slots], fun g => (h.pins g).1,
    fun g => (h.pins g).agrees, h.straps⟩

/-- A record whose form stands: where one stood, one stands, of the same form. -/
theorem Steady.record {s t : State} (h : Steady s t) {i : SlotNo} {r : Record} (hr : s.slots[i].record = some r) :
    ∃ r', t.slots[i].record = some r' ∧ r'.form = r.form := by
  have := h.form i
  rw [hr, Option.map_some] at this
  exact Option.map_eq_some_iff.mp this

/-- A record whose form stands: where one stands, one stood. -/
theorem Steady.record_of {s t : State} (h : Steady s t) {i : SlotNo} {r : Record} (hr : t.slots[i].record = some r) :
    ∃ r', s.slots[i].record = some r' ∧ r.form = r'.form := by
  have := (h.form i).symm
  rw [hr, Option.map_some] at this
  obtain ⟨r', h1, h2⟩ := Option.map_eq_some_iff.mp this
  exact ⟨r', h1, h2.symm⟩

/-- Records of one form agree in all but value, version and subscriptions. -/
theorem Record.form_eq {r r' : Record} (h : r'.form = r.form) :
    r' = { r with value := r'.value, version := r'.version, subs := r'.subs } := by
  simp only [Record.form, Record.mk.injEq] at h
  obtain ⟨h1, h2, h3, -, -, h4, h5, h6, h7, h8, -⟩ := h
  cases r'
  simp_all only

theorem Steady.setValue {s : State} (i : SlotNo) (v : Byte) (h : Steady s (s.change i v 0)) : Steady s (s.setValue i v) := by
  rw [State.setValue_eq]
  split
  · exact .refl s
  · exact h

/-- A port that is as it was but for the indication on its way has its straps. -/
theorem straps_of_owed {x y : PortState} {c : Prop} [Decidable c]
    (h : y = if c then x else { x with inIndication := some false }) : y.enabled = x.enabled ∧ y.cls = x.cls := by
  rw [h]
  split <;> exact ⟨rfl, rfl⟩

theorem Steady.change (s : State) (i : SlotNo) (v : Byte) (n : Nat) : Steady s (s.change i v n) where
  rstLow := s.change_rstLow i v n
  idMap := s.change_idMap i v n
  gen := s.change_gen i v n
  form j := by
    rw [State.change_record]
    split
    · next hj => rw [hj]; cases s.slots[i].record <;> rfl
    · rfl
  binding g := by
    rw [State.change_pin]
    cases hb : s.pins[g].binding with
    | none => exact hb
    | some b => dsimp only; split <;> exact hb
  wire g hg := by
    rw [State.change_pin]
    cases hb : s.pins[g].binding with
    | none => exact hg
    | some b =>
      dsimp only
      split
      · next hc =>
        simp only [WireAgrees, hb, hc.1] at hg ⊢
        exact ⟨hg.1, by simp⟩
      · exact hg
  straps q := straps_of_owed (s.change_port i v n q)

theorem Steady.given (s : State) (i : SlotNo) (v : Byte) : Steady s (s.setValue i v) := .setValue i v (.change s i v 0)

theorem Steady.updSub (s : State) (i : SlotNo) (p : Port) (f : Option Sub → Option Sub) : Steady s (s.updSub i p f) where
  rstLow := s.updSub_rstLow i p f
  idMap := s.updSub_idMap i p f
  gen := s.updSub_gen i p f
  form j := by
    rw [State.updSub_record]
    split
    · next hj => rw [hj]; cases s.slots[i].record <;> rfl
    · rfl
  binding g := by simp only [State.updSub_pins]
  wire g hg := by simpa only [State.updSub_pins] using hg
  straps q := by
    rw [State.updSub_port]
    split <;> exact ⟨rfl, rfl⟩

theorem Steady.modDomain (s : State) (d : Dom) (f : DomainEntry → DomainEntry) : Steady s (s.modDomain d f) :=
  ⟨rfl, rfl, fun _ => rfl, fun _ => rfl, fun _ => rfl, fun _ h => h, fun _ => ⟨rfl, rfl⟩⟩

theorem Steady.modService (s : State) (p : Port) (f : Service → Service) : Steady s (s.modService p f) :=
  ⟨rfl, rfl, fun _ => rfl, fun _ => rfl, fun _ => rfl, fun _ h => h, fun _ => ⟨rfl, rfl⟩⟩

/-! ## Moves -/

/-- A record a happening may change: a LINK or OVERDUE record, one with an INPUT binding, or a LIVE unlocked user record. -/
def Changeable (s : State) (i : SlotNo) : Prop :=
  i.val < 12 ∨ (∃ g : Pin, InputBoundTo s.pins[g] i)
    ∨ (20 ≤ i.val ∧ ∃ r, s.slots[i].record = some r ∧ r.state = .live ∧ r.locked = false)

/-- The owner is NONE or a port. -/
def Owner.plain : Owner → Prop
  | .nobody | .port _ => True
  | .pin _ | .system => False

/-- Stages 1 to 3 of a BIND_PIN INPUT (R114): the pin is bound and sampled, and owns the record. -/
def State.inputBinding (s : State) (g : Pin) (i : SlotNo) (f : Fin 16) (active l : Level) : State :=
  ((s.modPin g fun x => x.bind i (.input f) active).modRecord i fun r => { r with owner := .pin g }).modPin g
    fun x => x.bindSample l

/-- p's entry on slot i has left its service list, and its OVERDUE record may have been given a value (R72, R152). -/
def State.EntryLeft (s : State) (p : Port) (i : SlotNo) (m : State) : Prop :=
  m = s.removeEntry p i ∨ ∃ v, m = (s.removeEntry p i).setValue (overdueSlot p) v

/-- What a row can do to the directory in one stage. -/
inductive Move : State → State → Prop where
  | stand {s t : State} (h : Stands s t) : Move s t
  | change {s : State} {i : SlotNo} (v : Byte) (n : Nat) (h : Changeable s i) : Move s (s.change i v n)
  | domain {s : State} (d : Dom) (f : DomainEntry → DomainEntry) :
      Move s ((s.modDomain d f).setValue (domainSlot d) (domStateByte (f s.domains[d]).state))
  | sub {s : State} {i : SlotNo} (p : Port) (f : Option Sub → Option Sub) (h : s.isDraining i = false) :
      Move s (s.updSub i p f)
  | unmark {s : State} (i : SlotNo) (p : Port) : Move s (s.updSub i p unmarked)
  | own {s : State} {i : SlotNo} {r : Record} (o : Owner) (hi : 20 ≤ i.val) (hr : s.slots[i].record = some r)
      (hk : r.locked = false) (ho : r.owner.plain) (hn : o.plain) : Move s (s.modRecord i fun r => { r with owner := o })
  | lock {s : State} {i : SlotNo} (hi : 20 ≤ i.val) (hb : s.inputBound i = false) :
      Move s (s.modRecord i fun r => { r with locked := true })
  | bindInput {s : State} {g : Pin} {i : SlotNo} {r : Record} (f : Fin 16) (a l : Level) (hi : 20 ≤ i.val)
      (hr : s.slots[i].record = some r) (hl : r.state = .live) (hv : r.kind = .level) (hk : r.locked = false)
      (hg : s.pins[g].binding = none) (hb : s.boundPin i = none) : Move s (s.inputBinding g i f a l)
  | bindOutput {s : State} {g : Pin} {i : SlotNo} {r : Record} (a : Level) (v : Byte) (hi : 20 ≤ i.val)
      (hr : s.slots[i].record = some r) (hl : r.state = .live) (hv : r.kind = .level) (hg : s.pins[g].binding = none)
      (hb : s.boundPin i = none) : Move s (s.bindOutput g i a v)
  | unbind {s : State} {g : Pin} {b : Binding} (hb : s.pins[g].binding = some b) : Move s (s.unbindFrom g b)
  | retire {s : State} {i : SlotNo} {r : Record} (hi : 20 ≤ i.val) (hr : s.slots[i].record = some r)
      (hl : r.state = .live) (hk : r.locked = false) : Move s (s.retireRecord i)
  | leave {s m : State} (p : Port) (i : SlotNo) (hm : s.EntryLeft p i m) :
      Move s (if m.isDraining i = true then m.removeDraining i p else m)

/-- From s to t, a DECLARE has placed the record r in the FREE user slot i (R12, R13). -/
structure Declares (s t : State) (i : SlotNo) (r : Record) : Prop where
  user : 20 ≤ i.val
  free : s.slots[i].record = none
  fresh : idFind r.id s.idMap = none
  live : r.state = .live
  plain : r.owner.plain
  next : t = { s with slots := s.slots.set i { gen := nextGeneration s.slots[i].gen, record := some r }
                      idMap := idInsert r.id i s.idMap }

/-- A run of moves. -/
def Moves : State → State → Prop := Relation.ReflTransGen Move

theorem Moves.refl (s : State) : Moves s s := Relation.ReflTransGen.refl
theorem Moves.trans {s t u : State} (h : Moves s t) (k : Moves t u) : Moves s u := Relation.ReflTransGen.trans h k
theorem Move.moves {s t : State} (h : Move s t) : Moves s t := .single h
theorem Moves.tail {s t u : State} (h : Moves s t) (k : Move t u) : Moves s u := Relation.ReflTransGen.tail h k

theorem Moves.setValue {s : State} {i : SlotNo} (v : Byte) (h : Changeable s i) : Moves s (s.setValue i v) := by
  rw [State.setValue_eq]
  split
  · exact .refl s
  · exact (Move.change v 0 h).moves

/-- What holds and every move keeps holds after a run of moves. -/
theorem Moves.keep {P : State → Prop} (hstep : ∀ s t, Move s t → P s → P t) {s t : State} (h : Moves s t) (hs : P s) : P t := by
  induction h with
  | refl => exact hs
  | tail _ hm ih => exact hstep _ _ hm ih

/-! ## What the stages of a move leave -/

theorem State.removeEntry_inService (s : State) (p q : Port) (i j : SlotNo) :
    (s.removeEntry p i).inService q j = if q = p ∧ j = i then false else s.inService q j := by
  unfold State.inService State.removeEntry
  rw [State.modService_get]
  by_cases hq : q = p
  · subst hq
    simp only [if_true, true_and, List.any_filter]
    by_cases hj : j = i
    · subst hj
      simp
    · rw [if_neg hj]
      congr 1
      funext e
      by_cases he : e.slot = j
      · simp [he, hj]
      · simp [he]
  · rw [if_neg hq, if_neg fun c => hq c.1]

theorem Steady.removeEntry (s : State) (p : Port) (i : SlotNo) : Steady s (s.removeEntry p i) := .modService s p _

theorem State.EntryLeft.steady {s m : State} {p : Port} {i : SlotNo} (h : s.EntryLeft p i m) : Steady s m := by
  rcases h with rfl | ⟨v, rfl⟩
  · exact .removeEntry s p i
  · exact (Steady.removeEntry s p i).trans (.given _ _ v)

/-- The last subscription of a DRAINING record takes the record with it; any other leaves alone (R19). -/
theorem State.removeDraining_eq (s : State) (i : SlotNo) (p : Port) :
    s.removeDraining i p =
      if (s.updSub i p fun _ => none).noSubsAt i = true then (s.updSub i p fun _ => none).freeSlot i
      else s.updSub i p fun _ => none := by
  unfold State.removeDraining State.noSubsAt
  cases h : (s.updSub i p fun _ => none).slots[i].record with
  | none => simp only [h, State.freeSlot_free _ _ h, if_true]
  | some r => simp only [h]

/-- A DRAINING record's last entry gone, the slot is as after the removal of the subscription, or freed. -/
theorem State.leave_cases (m : State) (p : Port) (i : SlotNo) :
    Steady m (if m.isDraining i = true then m.removeDraining i p else m)
      ∨ ∃ u, Steady m u ∧ m.isDraining i = true ∧ u = m.updSub i p (fun _ => none) ∧ u.noSubsAt i = true
          ∧ (if m.isDraining i = true then m.removeDraining i p else m) = u.freeSlot i := by
  by_cases hd : m.isDraining i = true
  · rw [if_pos hd, State.removeDraining_eq]
    split
    · next hn => exact .inr ⟨_, .updSub m i p _, hd, rfl, hn, rfl⟩
    · exact .inl (.updSub m i p _)
  · rw [if_neg hd]
    exact .inl (.refl m)

theorem isDraining_iff (s : State) (i : SlotNo) :
    s.isDraining i = true ↔ ∃ r, s.slots[i].record = some r ∧ r.state = .draining := by
  unfold State.isDraining
  cases s.slots[i].record <;> simp

theorem isLive_iff (s : State) (i : SlotNo) :
    s.isLive i = true ↔ ∃ r, s.slots[i].record = some r ∧ r.state = .live := by
  unfold State.isLive
  cases s.slots[i].record <;> simp

end Sys2Proof.Machine
end

section
/-! What every move keeps: the Id Map exact (R5), bindings, owners and drivers in agreement (R4, R109), the generations and
straps (R3, R110, R124). -/

namespace Sys2Proof.Machine

open Sys2Proof

/-! ## The Id Map -/

theorem IdMapExact.of_idAt {s t : State} (h : IdMapExact s) (hm : t.idMap = s.idMap) (hid : ∀ i, t.idAt i = s.idAt i) :
    IdMapExact t := by
  unfold IdMapExact at h ⊢
  simpa only [hm, hid] using h

/-- An id stands at one slot alone. -/
theorem IdMapExact.inj {s : State} (h : IdMapExact s) {i j : SlotNo} {id : Half} (hi : s.idAt i = some id)
    (hj : s.idAt j = some id) : i = j := by
  obtain ⟨hsort, -, hall⟩ := h
  by_contra hne
  have hsymm : Std.Symm fun a b : Half × SlotNo => a ≠ b → a.1.toNat ≠ b.1.toNat :=
    ⟨fun _ _ h e => (h e.symm).symm⟩
  have hpair := List.Pairwise.forall_of_forall (fun _ _ e => absurd rfl e)
    (hsort.imp fun {a b} hlt => (fun _ => Nat.ne_of_lt hlt : a ≠ b → a.1.toNat ≠ b.1.toNat)) (hall i id hi) (hall j id hj)
  exact hpair (fun e => hne (congrArg Prod.snd e)) rfl

/-- The map without an id is exact where that id's slot has been freed. -/
theorem IdMapExact.freed {s t : State} (h : IdMapExact s) {i : SlotNo} {id : Half} (hi : s.idAt i = some id)
    (hm : t.idMap = idErase id s.idMap) (hid : ∀ j, t.idAt j = if j = i then none else s.idAt j) : IdMapExact t := by
  obtain ⟨hsort, hmem, hall⟩ := h
  refine ⟨hm ▸ idErase_sorted id s.idMap hsort, fun e he => ?_, fun j id' hj => ?_⟩
  · rw [hm, idErase, List.mem_filter] at he
    obtain ⟨he, hne⟩ := he
    rw [hid, if_neg, hmem e he]
    rintro rfl
    rw [hmem e he, Option.some.injEq] at hi
    simp [hi] at hne
  · rw [hid] at hj
    split at hj
    · cases hj
    · next hne =>
      rw [hm, idErase, List.mem_filter]
      refine ⟨hall j id' hj, ?_⟩
      simp only [ne_eq, decide_not, Bool.not_eq_eq_eq_not, Bool.not_true, decide_eq_false_iff_not]
      rintro rfl
      exact hne (IdMapExact.inj ⟨hsort, hmem, hall⟩ hj hi)

/-- The map with a fresh id is exact where a record with that id has come to stand in a FREE slot. -/
theorem IdMapExact.declared {s t : State} (h : IdMapExact s) {i : SlotNo} {id : Half} (hi : s.idAt i = none)
    (hf : idFind id s.idMap = none) (hm : t.idMap = idInsert id i s.idMap)
    (hid : ∀ j, t.idAt j = if j = i then some id else s.idAt j) : IdMapExact t := by
  obtain ⟨hsort, hmem, hall⟩ := h
  have hfresh : ∀ e ∈ s.idMap, e.1 ≠ id := by
    intro e he
    have := List.find?_eq_none.mp (Option.map_eq_none_iff.mp hf) e he
    simpa using this
  refine ⟨hm ▸ idInsert_sorted id i s.idMap hsort hfresh, fun e he => ?_, fun j id' hj => ?_⟩
  · rw [hm, mem_idInsert] at he
    rcases he with rfl | he
    · rw [hid, if_pos rfl]
    · rw [hid, if_neg, hmem e he]
      rintro rfl
      rw [hmem e he] at hi
      cases hi
  · rw [hm, mem_idInsert]
    rw [hid] at hj
    split at hj
    · next e => cases hj; exact .inl (by rw [e])
    · exact .inr (hall j id' hj)

/-- The id a map holds is found at its slot. -/
theorem IdMapExact.find {s : State} (h : IdMapExact s) (id : Half) (i : SlotNo) :
    idFind id s.idMap = some i ↔ s.idAt i = some id := by
  constructor
  · intro hf
    obtain ⟨e, he, hi⟩ := Option.map_eq_some_iff.mp hf
    have hid : e.1 = id := by simpa using List.find?_some he
    rw [← hi, ← hid]
    exact h.2.1 e (List.mem_of_find?_eq_some he)
  · intro hi
    have hmem := h.2.2 i id hi
    cases hf : idFind id s.idMap with
    | none =>
      have := List.find?_eq_none.mp (Option.map_eq_none_iff.mp hf) _ hmem
      simp at this
    | some j =>
      obtain ⟨e, he, hj⟩ := Option.map_eq_some_iff.mp hf
      have hid : e.1 = id := by simpa using List.find?_some he
      have := h.2.1 e (List.mem_of_find?_eq_some he)
      rw [hid, hj] at this
      rw [h.inj this hi]

theorem Steady.idAt {s t : State} (h : Steady s t) (i : SlotNo) : t.idAt i = s.idAt i := by
  have hf : ∀ o : Option Record, o.map (·.id) = (o.map Record.form).map (·.id) := fun o => by cases o <;> rfl
  rw [State.idAt, hf, h.form i, ← hf, State.idAt]

theorem State.modRecord_idAt (s : State) (i j : SlotNo) (f : Record → Record) (hf : ∀ r, (f r).id = r.id) :
    (s.modRecord i f).idAt j = s.idAt j := by
  simp only [State.idAt, State.modRecord_record]
  split
  · next hj => rw [hj, Option.map_map]; congr 1; funext r; exact hf r
  · rfl

/-- The slots at which no owner, lock or binding is written stand; those at which one is keep their id. -/
theorem State.unbindFrom_idAt (s : State) (g : Pin) (b : Binding) (j : SlotNo) : (s.unbindFrom g b).idAt j = s.idAt j := by
  unfold State.unbindFrom
  split
  · exact State.modRecord_idAt (s.modPin g PinState.unbound) b.slot j (fun r => { r with owner := .nobody }) fun _ => rfl
  · rfl

theorem State.unbindFrom_frame (s : State) (g : Pin) (b : Binding) :
    s.unbindFrom g b = { s with slots := (s.unbindFrom g b).slots, pins := (s.unbindFrom g b).pins } := by
  unfold State.unbindFrom
  split <;> rfl

/-- What a move does to the ids: nothing, or one slot's record and its id go. -/
theorem Move.ids {s t : State} (h : Move s t) :
    (t.idMap = s.idMap ∧ ∀ i, t.idAt i = s.idAt i)
      ∨ ∃ i id, s.idAt i = some id ∧ t.idMap = idErase id s.idMap ∧ ∀ j, t.idAt j = if j = i then none else s.idAt j := by
  cases h with
  | stand h => exact .inl ⟨h.idMap, h.steady.idAt⟩
  | change v n h => exact .inl ⟨s.change_idMap _ v n, (Steady.change s _ v n).idAt⟩
  | domain d f =>
    have k := (Steady.modDomain s d f).trans (.given _ (domainSlot d) (domStateByte (f s.domains[d]).state))
    exact .inl ⟨k.idMap, k.idAt⟩
  | sub p f h => exact .inl ⟨s.updSub_idMap _ p f, (Steady.updSub s _ p f).idAt⟩
  | unmark i p => exact .inl ⟨s.updSub_idMap i p _, (Steady.updSub s i p _).idAt⟩
  | own o => exact .inl ⟨rfl, fun j => s.modRecord_idAt _ j _ fun _ => rfl⟩
  | lock => exact .inl ⟨rfl, fun j => s.modRecord_idAt _ j _ fun _ => rfl⟩
  | @bindInput g i =>
    exact .inl ⟨rfl, fun j => State.modRecord_idAt (s.modPin g _) i j (fun r => { r with owner := .pin g }) fun _ => rfl⟩
  | bindOutput => exact .inl ⟨rfl, fun _ => rfl⟩
  | @unbind g b hb => exact .inl ⟨by rw [State.unbindFrom_frame], s.unbindFrom_idAt g b⟩
  | @retire i r hi hr =>
    rw [State.retireRecord_idMap s i r hr]
    have hid : ∀ j, (s.retireRecord i).idAt j
        = if j = i then (if ∀ q : Port, s.retiredSub i q r.subs[q] = none then none else some r.id) else s.idAt j := by
      intro j
      simp only [State.idAt, State.retireRecord_slot s i r hr]
      split
      · split <;> rfl
      · rfl
    have hri : s.idAt i = some r.id := by simp only [State.idAt, hr, Option.map_some]
    by_cases hno : ∀ q : Port, s.retiredSub i q r.subs[q] = none
    · simp only [if_pos hno] at hid ⊢
      exact .inr ⟨i, r.id, hri, rfl, hid⟩
    · simp only [if_neg hno] at hid ⊢
      refine .inl ⟨trivial, fun j => ?_⟩
      rw [hid]
      split
      · next hj => rw [hj, hri]
      · rfl
  | @leave m p i hm =>
    rcases State.leave_cases m p i with hs | ⟨u, hs, -, -, -, hu⟩
    · exact .inl ⟨(hm.steady.trans hs).idMap, (hm.steady.trans hs).idAt⟩
    · have hsu := hm.steady.trans hs
      rw [hu]
      cases hr : u.slots[i].record with
      | none =>
        rw [State.freeSlot_free u i hr]
        exact .inl ⟨hsu.idMap, hsu.idAt⟩
      | some r =>
        refine .inr ⟨i, r.id, ?_, ?_, fun j => ?_⟩
        · rw [← hsu.idAt, State.idAt, hr, Option.map_some]
        · rw [State.freeSlot_spec u i r hr, ← hsu.idMap]; rfl
        · rw [← hsu.idAt, State.idAt, State.freeSlot_record]
          split <;> rfl

theorem Move.idMapExact {s t : State} (h : Move s t) (hs : IdMapExact s) : IdMapExact t := by
  rcases h.ids with ⟨hm, hid⟩ | ⟨i, id, hi, hm, hid⟩
  · exact hs.of_idAt hm hid
  · exact hs.freed hi hm hid

theorem Declares.idMapExact {s t : State} {i : SlotNo} {r : Record} (h : Declares s t i r) (hs : IdMapExact s) :
    IdMapExact t := by
  refine hs.declared (i := i) (id := r.id) (by rw [State.idAt, h.free]; rfl) h.fresh (by rw [h.next]) fun j => ?_
  simp only [State.idAt, h.next, set_get]
  split <;> rfl

/-! ## Reset, generations and straps -/

theorem Move.rstLow {s t : State} (h : Move s t) : t.rstLow = s.rstLow := by
  cases h with
  | stand h => exact h.rstLow
  | change v n h => exact s.change_rstLow _ v n
  | domain d f => simp only [State.setValue_rstLow, State.modDomain_rstLow]
  | sub p f h => exact s.updSub_rstLow _ p f
  | unmark i p => exact s.updSub_rstLow i p _
  | own | lock | bindInput | bindOutput => rfl
  | unbind hb => rw [State.unbindFrom_frame]
  | retire hi hr => rw [State.retireRecord_frame s _ _ hr]
  | @leave m p i hm =>
    rcases State.leave_cases m p i with hs | ⟨u, hs, -, -, -, hu⟩
    · exact (hm.steady.trans hs).rstLow
    · rw [hu, State.freeSlot_rstLow]; exact (hm.steady.trans hs).rstLow

theorem Moves.rstLow {s t : State} (h : Moves s t) : t.rstLow = s.rstLow :=
  h.keep (P := fun u => u.rstLow = s.rstLow) (fun _ _ hm hp => hm.rstLow.trans hp) rfl

/-- No move alters a generation: only a declaration does (R3). -/
theorem Move.gen {s t : State} (h : Move s t) (j : SlotNo) : t.slots[j].gen = s.slots[j].gen := by
  cases h with
  | stand h => exact h.steady.gen j
  | change v n h => exact s.change_gen _ v n j
  | domain d f => exact ((Steady.modDomain s d f).trans (.given _ (domainSlot d) _)).gen j
  | sub p f h => exact s.updSub_gen _ p f j
  | unmark i p => exact s.updSub_gen i p _ j
  | own | lock => exact s.modRecord_gen _ j _
  | bindInput => exact State.modRecord_gen _ _ j _
  | bindOutput => rfl
  | @unbind g b hb =>
    unfold State.unbindFrom
    split
    · simp only [State.modRecord_gen, State.modPin_slots]
    · rfl
  | retire hi hr =>
    rw [State.retireRecord_slot s _ _ hr]
    split
    · next hj => rw [hj]
    · rfl
  | @leave m p i hm =>
    rcases State.leave_cases m p i with hs | ⟨u, hs, -, -, -, hu⟩
    · exact (hm.steady.trans hs).gen j
    · rw [hu, State.freeSlot_gen]; exact (hm.steady.trans hs).gen j

theorem Moves.gen {s t : State} (h : Moves s t) (j : SlotNo) : t.slots[j].gen = s.slots[j].gen :=
  h.keep (P := fun u => u.slots[j].gen = s.slots[j].gen) (fun _ _ hm hp => (hm.gen j).trans hp) rfl

/-- Enable and class of port p are the same in both states. -/
def SameStraps (s t : State) (p : Port) : Prop := t.ports[p].enabled = s.ports[p].enabled ∧ t.ports[p].cls = s.ports[p].cls

theorem SameStraps.trans {s t u : State} {p : Port} (h : SameStraps s t p) (k : SameStraps t u p) : SameStraps s u p :=
  ⟨k.1.trans h.1, k.2.trans h.2⟩

theorem SameStraps.of_ports {s t : State} (h : t.ports = s.ports) (p : Port) : SameStraps s t p := by
  rw [SameStraps, h]; exact ⟨rfl, rfl⟩

theorem Move.straps {s t : State} (h : Move s t) (p : Port) : SameStraps s t p := by
  cases h with
  | stand h => exact h.straps p
  | change v n h => exact (Steady.change s _ v n).straps p
  | domain d f => exact ((Steady.modDomain s d f).trans (.given _ (domainSlot d) _)).straps p
  | sub p' f h => exact (Steady.updSub s _ p' f).straps p
  | unmark i p' => exact (Steady.updSub s i p' _).straps p
  | own | lock | bindInput | bindOutput => exact .of_ports rfl p
  | @unbind g b hb => exact .of_ports (by rw [State.unbindFrom_frame]) p
  | @retire i r hi hr =>
    rw [SameStraps, State.retireRecord_port s i r hr]
    split <;> exact ⟨rfl, rfl⟩
  | @leave m p' i hm =>
    rcases State.leave_cases m p' i with hs | ⟨u, hs, -, -, -, hu⟩
    · exact (hm.steady.trans hs).straps p
    · rw [hu, SameStraps, State.freeSlot_ports]; exact (hm.steady.trans hs).straps p

theorem Moves.straps {s t : State} (h : Moves s t) (p : Port) : SameStraps s t p :=
  h.keep (P := fun u => SameStraps s u p) (fun _ _ hm hp => hp.trans (hm.straps p)) ⟨rfl, rfl⟩

end Sys2Proof.Machine
end

section
/-! Every move keeps bindings, owners and drivers in agreement (R4, R109). -/

namespace Sys2Proof.Machine

open Sys2Proof

theorem BindingHolds.record {o : Option Record} {g : Pin} {b : Binding} (h : BindingHolds o g b) :
    ∃ r, o = some r ∧ r.state = .live ∧ r.kind = .level ∧ (b.dir ≠ .output → r.owner = .pin g ∧ r.locked = false) := by
  cases o with
  | none => exact h.elim
  | some r => exact ⟨r, rfl, h⟩

/-- An INPUT binding on a slot, as such. -/
theorem inputBoundTo_iff (x : PinState) (i : SlotNo) :
    InputBoundTo x i ↔ ∃ b, x.binding = some b ∧ b.slot = i ∧ b.dir ≠ .output := by
  unfold InputBoundTo
  cases x.binding <;> simp

theorem InputBoundTo.congr {x y : PinState} (h : y.binding = x.binding) (i : SlotNo) : InputBoundTo y i ↔ InputBoundTo x i := by
  rw [inputBoundTo_iff, inputBoundTo_iff, h]

/-- The record in slot i is INPUT-bound, seen from the pins. -/
theorem State.inputBound_iff (s : State) (hu : BoundOnce s) (i : SlotNo) :
    s.inputBound i = true ↔ ∃ g : Pin, InputBoundTo s.pins[g] i := by
  constructor
  · intro h
    cases hg : s.boundPin i with
    | none => simp only [State.inputBound, hg, Bool.false_eq_true] at h
    | some g =>
      obtain ⟨b, hb, hs⟩ := State.boundPin_some s hg
      rw [State.inputBound_of s i hg hb, decide_eq_true_eq] at h
      exact ⟨g, (inputBoundTo_iff _ _).mpr ⟨b, hb, hs, h⟩⟩
  · rintro ⟨g, hg⟩
    obtain ⟨b, hb, hs, hd⟩ := (inputBoundTo_iff _ _).mp hg
    rw [State.inputBound_of s i (hs ▸ s.boundPin_of_binding hu hb) hb, decide_eq_true_eq]
    exact hd

/-- A record owned by a pin is INPUT-bound. -/
theorem BindingsStand.inputBound {s : State} (h : BindingsStand s) {i : SlotNo} {r : Record} {g : Pin}
    (hr : s.slots[i].record = some r) (ho : r.owner = .pin g) : s.inputBound i = true :=
  (s.inputBound_iff h.boundOnce i).mpr ⟨g, h.2.2.1 i r hr g ho⟩

/-- An INPUT-bound record is LIVE, LEVEL, unlocked and owned by its pin. -/
theorem BindingsStand.bound {s : State} (h : BindingsStand s) {i : SlotNo} {g : Pin} (hg : InputBoundTo s.pins[g] i) :
    ∃ r, s.slots[i].record = some r ∧ r.state = .live ∧ r.kind = .level ∧ r.owner = .pin g ∧ r.locked = false := by
  obtain ⟨b, hb, rfl, hd⟩ := (inputBoundTo_iff _ _).mp hg
  obtain ⟨r, hr, hl, hk, ho⟩ := (h.1 g b hb).record
  exact ⟨r, hr, hl, hk, ho hd⟩

/-- An INPUT-bound record is owned by a pin, so by no port and not by NONE. -/
theorem BindingsStand.inputBound_owner {s : State} (h : BindingsStand s) {i : SlotNo} {r : Record}
    (hr : s.slots[i].record = some r) (hb : s.inputBound i = true) : ∃ g, r.owner = .pin g := by
  obtain ⟨g, hg⟩ := (s.inputBound_iff h.boundOnce i).mp hb
  obtain ⟨r', hr', -, -, ho, -⟩ := h.bound hg
  rw [hr, Option.some.injEq] at hr'
  exact ⟨g, hr' ▸ ho⟩

theorem Steady.bindingsStand {s t : State} (k : Steady s t) (h : BindingsStand s) : BindingsStand t := by
  obtain ⟨h1, h2, h3, h4⟩ := h
  refine ⟨fun g b hb => ?_, fun g g' b hb c hc => ?_, fun i r hr g ho => ?_, fun g => k.wire g (h4 g)⟩
  · rw [k.binding] at hb
    obtain ⟨r, hr, hl, hv, ho⟩ := (h1 g b hb).record
    obtain ⟨r', hr', hf⟩ := k.record hr
    rw [hr', Record.form_eq hf]
    exact ⟨hl, hv, ho⟩
  · rw [k.binding] at hb hc
    exact h2 g g' b hb c hc
  · obtain ⟨r', hr', hf⟩ := k.record_of hr
    have ho' : r'.owner = .pin g := by rw [Record.form_eq hf] at ho; exact ho
    exact (InputBoundTo.congr (k.binding g) i).mpr (h3 i r' hr' g ho')

/-- A record's owner, or lock, is written: the binding, if there is one, must still hold of it. -/
theorem BindingsStand.modRecord {s : State} (h : BindingsStand s) {i : SlotNo} {r : Record} (f : Record → Record)
    (hr : s.slots[i].record = some r) (hl : (f r).state = r.state) (hk : (f r).kind = r.kind)
    (hin : ∀ g : Pin, ¬ InputBoundTo s.pins[g] i) (ho : ∀ g : Pin, (f r).owner ≠ .pin g) :
    BindingsStand (s.modRecord i f) := by
  obtain ⟨h1, h2, h3, h4⟩ := h
  refine ⟨fun g b hb => ?_, h2, fun j r' hr' g hg => ?_, h4⟩
  · rw [State.modRecord_record]
    split
    · next hj =>
      subst hj
      obtain ⟨r', hr', hl', hv, -⟩ := (h1 g b hb).record
      rw [hr, Option.some.injEq] at hr'
      subst hr'
      rw [hr]
      exact ⟨hl.trans hl', hk.trans hv, fun hd => absurd ((inputBoundTo_iff _ _).mpr ⟨b, hb, rfl, hd⟩) (hin g)⟩
    · exact h1 g b hb
  · rw [State.modRecord_record] at hr'
    split at hr'
    · rw [hr] at hr'
      cases hr'
      exact absurd hg (ho g)
    · exact h3 j r' hr' g hg

theorem State.modRecord_free (s : State) (i : SlotNo) (f : Record → Record) (h : s.slots[i].record = none) :
    s.modRecord i f = s := by
  unfold State.modRecord
  have hi : ({ s.slots[i] with record := none } : Slot) = s.slots[i] := by rw [← h]
  rw [h, Option.map_none, hi, set_same]

/-- A slot to which no pin is bound is freed. -/
theorem BindingsStand.freed {s t : State} (h : BindingsStand s) {i : SlotNo} (hp : t.pins = s.pins)
    (hn : ∀ g : Pin, ∀ b ∈ s.pins[g].binding, b.slot ≠ i)
    (ht : ∀ j, t.slots[j].record = if j = i then none else s.slots[j].record) : BindingsStand t := by
  obtain ⟨h1, h2, h3, h4⟩ := h
  unfold BindingsStand
  simp only [hp]
  refine ⟨fun g b hb => ?_, h2, fun j r hr g ho => ?_, h4⟩
  · rw [ht, if_neg (hn g b hb)]
    exact h1 g b hb
  · rw [ht] at hr
    split at hr
    · cases hr
    · exact h3 j r hr g ho

theorem State.unbindFrom_pin (s : State) (g h : Pin) (b : Binding) :
    (s.unbindFrom g b).pins[h] = if h = g then (s.pins[g]).unbound else s.pins[h] := by
  unfold State.unbindFrom
  cases b.dir <;> simp only [State.modRecord_pins, State.modPin_get]

theorem State.unbindFrom_record (s : State) (g : Pin) (b : Binding) (j : SlotNo) :
    (s.unbindFrom g b).slots[j].record =
      if j = b.slot ∧ b.dir ≠ .output then s.slots[b.slot].record.map fun r => { r with owner := .nobody }
      else s.slots[j].record := by
  unfold State.unbindFrom
  cases b.dir with
  | input f => simp only [State.modRecord_record, State.modPin_slots, ne_eq, reduceCtorEq, not_false_eq_true, and_true]
  | output => simp only [State.modPin_slots, ne_eq, not_true_eq_false, and_false, if_false]

/-- A pin without a binding agrees with its wire side. -/
theorem wireAgrees_unbound (x : PinState) : WireAgrees x.unbound := ⟨rfl, rfl⟩

theorem BindingsStand.unbound {s t : State} (h : BindingsStand s) {i : SlotNo}
    (hp : ∀ g : Pin, t.pins[g] =
      if (s.pins[g].binding.any fun b => b.slot = i) = true then (s.pins[g]).unbound else s.pins[g])
    (hr : ∀ j, j ≠ i → t.slots[j].record = s.slots[j].record)
    (ho : ∀ r ∈ t.slots[i].record, ∀ g : Pin, r.owner ≠ .pin g) : BindingsStand t := by
  obtain ⟨h1, h2, h3, h4⟩ := h
  have hb : ∀ g : Pin, ∀ b ∈ t.pins[g].binding, t.pins[g] = s.pins[g] ∧ s.pins[g].binding = some b ∧ b.slot ≠ i := by
    intro g b hb
    have hpg := hp g
    split at hpg
    · rw [hpg] at hb; cases hb
    · next hc =>
      rw [hpg] at hb
      refine ⟨hpg, hb, fun e => hc ?_⟩
      rw [Option.mem_def.mp hb, Option.any_some]
      simpa using e
  refine ⟨fun g b hg => ?_, fun g g' b hg c hc => ?_, fun j r hj g hg => ?_, fun g => ?_⟩
  · obtain ⟨-, hs, hne⟩ := hb g b hg
    rw [hr _ hne]
    exact h1 g b hs
  · exact h2 g g' b (hb g b hg).2.1 c (hb g' c hc).2.1
  · have hne : j ≠ i := by rintro rfl; exact ho r hj g hg
    rw [hr j hne] at hj
    have hin := h3 j r hj g hg
    obtain ⟨b, hsb, hsj, -⟩ := (inputBoundTo_iff _ _).mp hin
    have : t.pins[g] = s.pins[g] := by
      rw [hp g, hsb, Option.any_some, if_neg]
      simpa [hsj] using hne
    rw [this]
    exact hin
  · rw [hp g]
    split
    · exact wireAgrees_unbound _
    · exact h4 g

/-- Pin g, without a binding before, is bound to slot i. -/
theorem BindingsStand.bound_to {s t : State} (h : BindingsStand s) {g : Pin} {i : SlotNo} {b : Binding} {r r' : Record}
    (hg : s.pins[g].binding = none) (hi : s.boundPin i = none) (hbi : b.slot = i) (hb : t.pins[g].binding = some b)
    (hw : WireAgrees t.pins[g]) (hp : ∀ g', g' ≠ g → t.pins[g'] = s.pins[g'])
    (hr : s.slots[i].record = some r) (hr' : t.slots[i].record = some r')
    (hj : ∀ j, j ≠ i → t.slots[j].record = s.slots[j].record) (hold : BindingHolds (some r') g b)
    (ho : ∀ g', r'.owner = .pin g' → r.owner = .pin g' ∨ (g' = g ∧ b.dir ≠ .output)) : BindingsStand t := by
  subst hbi
  obtain ⟨h1, h2, h3, h4⟩ := h
  have hne : ∀ g' : Pin, ∀ c ∈ s.pins[g'].binding, c.slot ≠ b.slot := State.boundPin_none s hi
  have hcase : ∀ g' : Pin, ∀ c ∈ t.pins[g'].binding, (g' = g ∧ c = b) ∨ (g' ≠ g ∧ c ∈ s.pins[g'].binding) := by
    intro g' c hc
    by_cases hgg : g' = g
    · subst hgg
      rw [hb] at hc
      exact .inl ⟨rfl, (Option.some.inj hc).symm⟩
    · rw [hp g' hgg] at hc
      exact .inr ⟨hgg, hc⟩
  have hin : ∀ (g' : Pin) (j : SlotNo), InputBoundTo s.pins[g'] j → InputBoundTo t.pins[g'] j := by
    intro g' j hs
    by_cases hgg : g' = g
    · subst hgg
      obtain ⟨c, hc, -⟩ := (inputBoundTo_iff _ _).mp hs
      rw [hg] at hc
      cases hc
    · rw [hp g' hgg]
      exact hs
  refine ⟨fun g' c hc => ?_, fun g₁ g₂ c₁ hc₁ c₂ hc₂ he => ?_, fun j x hx g' hg' => ?_, fun g' => ?_⟩
  · rcases hcase g' c hc with ⟨rfl, rfl⟩ | ⟨-, hc⟩
    · rw [hr']
      exact hold
    · rw [hj _ (hne g' c hc)]
      exact h1 g' c hc
  · rcases hcase g₁ c₁ hc₁ with ⟨rfl, rfl⟩ | ⟨-, hc₁⟩ <;> rcases hcase g₂ c₂ hc₂ with ⟨rfl, rfl⟩ | ⟨-, hc₂⟩
    · rfl
    · exact absurd he.symm (hne _ _ hc₂)
    · exact absurd he (hne _ _ hc₁)
    · exact h2 g₁ g₂ c₁ hc₁ c₂ hc₂ he
  · by_cases hji : j = b.slot
    · subst hji
      rw [hr'] at hx
      cases hx
      rcases ho g' hg' with ho | ⟨rfl, hd⟩
      · exact hin g' _ (h3 _ r hr g' ho)
      · exact (inputBoundTo_iff _ _).mpr ⟨b, hb, rfl, hd⟩
    · rw [hj j hji] at hx
      exact hin g' j (h3 j x hx g' hg')
  · by_cases hgg : g' = g
    · rw [hgg]; exact hw
    · rw [hp g' hgg]; exact h4 g'

theorem State.inputBinding_pin (s : State) (g g' : Pin) (i : SlotNo) (f : Fin 16) (a l : Level) :
    (s.inputBinding g i f a l).pins[g'] =
      if g' = g then (s.pins[g].bind i (.input f) a).bindSample l else s.pins[g'] := by
  unfold State.inputBinding
  simp only [State.modPin_get, State.modRecord_pins, if_true]
  split <;> rfl

theorem State.inputBinding_record (s : State) (g : Pin) (i j : SlotNo) (f : Fin 16) (a l : Level) :
    (s.inputBinding g i f a l).slots[j].record =
      if j = i then s.slots[i].record.map fun r => { r with owner := .pin g } else s.slots[j].record := by
  unfold State.inputBinding
  simp only [State.modPin_slots, State.modRecord_record]

theorem Move.bindingsStand {s t : State} (m : Move s t) (h : BindingsStand s) : BindingsStand t := by
  cases m with
  | stand k => exact k.steady.bindingsStand h
  | change v n k => exact (Steady.change s _ v n).bindingsStand h
  | domain d f => exact ((Steady.modDomain s d f).trans (.given _ (domainSlot d) _)).bindingsStand h
  | sub p f k => exact (Steady.updSub s _ p f).bindingsStand h
  | unmark i p => exact (Steady.updSub s i p _).bindingsStand h
  | @own i r o hi hr hk ho hn =>
    refine h.modRecord _ hr rfl rfl (fun g hg => ?_) fun g e => ?_
    · obtain ⟨r', hr', -, -, ho', -⟩ := h.bound hg
      rw [hr, Option.some.injEq] at hr'
      rw [hr', ho'] at ho
      exact ho
    · dsimp only at e
      rw [e] at hn
      exact hn
  | @lock i hi hb =>
    have hin : ∀ g : Pin, ¬ InputBoundTo s.pins[g] i := fun g hg => by
      rw [(s.inputBound_iff h.boundOnce i).mpr ⟨g, hg⟩] at hb
      cases hb
    cases hr : s.slots[i].record with
    | none => rw [State.modRecord_free s i _ hr]; exact h
    | some r =>
      exact h.modRecord _ hr rfl rfl hin fun g hg => hin g (h.2.2.1 i r hr g hg)
  | @bindInput g i r f a l hi hr hl hv hk hg hb =>
    have hp := fun g' => s.inputBinding_pin g g' i f a l
    refine h.bound_to (b := { slot := i, dir := .input f, active := a, serial := s.pins[g].serialCounter + 1#8 })
      (r' := { r with owner := .pin g }) hg hb rfl ?_ ?_ (fun g' hne => ?_) hr ?_ (fun j hj => ?_) ⟨hl, hv, fun _ => ⟨rfl, hk⟩⟩
      fun g' e => .inr ⟨(Owner.pin.inj e).symm, by simp⟩
    · rw [hp, if_pos rfl]; rfl
    · rw [hp, if_pos rfl]; exact ⟨rfl, rfl⟩
    · rw [hp, if_neg hne]
    · rw [State.inputBinding_record, if_pos rfl, hr, Option.map_some]
    · rw [State.inputBinding_record, if_neg hj]
  | @bindOutput g i r a v hi hr hl hv hg hb =>
    have hp : ∀ g' : Pin, (s.bindOutput g i a v).pins[g'] = _ := fun g' => s.modPin_get g g' _
    refine h.bound_to (b := { slot := i, dir := .output, active := a, serial := s.pins[g].serialCounter + 1#8 })
      (r' := r) hg hb rfl ?_ ?_ (fun g' hne => ?_) hr hr (fun j hj => rfl) ⟨hl, hv, fun e => absurd rfl e⟩ fun g' e => .inl e
    · rw [hp, if_pos rfl]; rfl
    · rw [hp, if_pos rfl]
      have hw := h.2.2.2 g
      simp only [WireAgrees, hg] at hw
      exact ⟨hw.1, by simp⟩
    · rw [hp, if_neg hne]
  | @unbind g b hb =>
    refine h.unbound (i := b.slot) (fun g' => ?_) (fun j hj => ?_) fun r hr g' ho => ?_
    · rw [State.unbindFrom_pin]
      by_cases hg : g' = g
      · subst hg
        rw [if_pos rfl, hb, Option.any_some, if_pos (by simp)]
      · rw [if_neg hg]
        cases hc : s.pins[g'].binding with
        | none => rfl
        | some c =>
          have hne : c.slot ≠ b.slot := fun e => hg (h.2.1 g' g c hc b hb e)
          rw [Option.any_some, if_neg (by simpa using hne)]
    · rw [State.unbindFrom_record, if_neg fun e => hj e.1]
    · rw [State.unbindFrom_record] at hr
      by_cases hd : b.dir ≠ .output
      · rw [if_pos ⟨rfl, hd⟩] at hr
        obtain ⟨r', -, rfl⟩ := Option.map_eq_some_iff.mp hr
        cases ho
      · rw [if_neg fun e => hd e.2] at hr
        obtain ⟨c, hc, hs, hcd⟩ := (inputBoundTo_iff _ _).mp (h.2.2.1 _ r hr g' ho)
        have hg := h.2.1 g' g c hc b hb hs
        subst hg
        rw [hb, Option.some.injEq] at hc
        exact hd (hc ▸ hcd)
  | @retire i r hi hr hl hk =>
    refine h.unbound (i := i) (s.retireRecord_pin i r h.boundOnce hr) (fun j hj => ?_) fun x hx g ho => ?_
    · rw [State.retireRecord_slot s i r hr, if_neg hj]
    · rw [State.retireRecord_slot s i r hr, if_pos rfl] at hx
      split at hx
      · cases hx
      · cases hx
        by_cases hin : s.inputBound i = true
        · simp only [State.retiredRecord, hin, if_true, reduceCtorEq] at ho
        · simp only [State.retiredRecord, hin, if_false, Bool.false_eq_true] at ho
          exact hin (h.inputBound hr ho)
  | @leave m p i hm =>
    have hbm := hm.steady.bindingsStand h
    rcases State.leave_cases m p i with hs | ⟨u, hs, hd, -, -, hu⟩
    · exact hs.bindingsStand hbm
    · rw [hu]
      have hbu := hs.bindingsStand hbm
      refine hbu.freed (i := i) (u.freeSlot_pins i) (fun g b hb e => ?_) (u.freeSlot_record i)
      subst e
      obtain ⟨r, hr, hrd⟩ := (isDraining_iff m b.slot).mp hd
      rw [hs.binding] at hb
      obtain ⟨r', hr', hl, -⟩ := (hbm.1 g b hb).record
      rw [hr, Option.some.injEq] at hr'
      rw [hr', hl] at hrd
      cases hrd

end Sys2Proof.Machine
end

section
/-! Every move keeps the system records standing (R8, R93), the subscriptions of DRAINING records in service (R18) and the
LIVE locked records as they are (R23). -/

namespace Sys2Proof.Machine

open Sys2Proof

/-! ## System records -/

/-- What R8 and R93 say of the part with RST# high. -/
def SystemsHold (s : State) : Prop :=
  (∀ i : SlotNo, ∀ id ∈ systemId i, s.slots[i].gen = 1#8 ∧ SystemForm s.slots[i].record id)
    ∧ (∀ g : Pin, ∀ b ∈ s.pins[g].binding, Config.firstUserSlot ≤ b.slot.val)
    ∧ ∀ d : Dom, s.valueAt (domainSlot d) = domStateByte s.domains[d].state

theorem systemId_isSome (i : SlotNo) : (systemId i).isSome = true ↔ i.val < 20 := by
  unfold systemId
  split
  · simp; omega
  · split
    · simp; omega
    · split <;> simp <;> omega

theorem systemId_some {i : SlotNo} (h : i.val < 20) : ∃ id, systemId i = some id :=
  Option.isSome_iff_exists.mp ((systemId_isSome i).mpr h)

theorem lt_of_systemId {i : SlotNo} {id : Half} (h : id ∈ systemId i) : i.val < 20 :=
  (systemId_isSome i).mp (Option.isSome_iff_exists.mpr ⟨id, h⟩)

/-- A system slot holds a LIVE record that is SYSTEM's, LEVEL and unlocked. -/
theorem SystemsHold.record {s : State} (h : SystemsHold s) {i : SlotNo} (hi : i.val < 20) :
    ∃ r, s.slots[i].record = some r ∧ r.state = .live ∧ r.kind = .level ∧ r.dflt = none ∧ r.domain = none
      ∧ r.owner = .system ∧ r.policy = none ∧ r.locked = false := by
  obtain ⟨id, hid⟩ := systemId_some hi
  have hf := (h.1 i id hid).2
  unfold SystemForm at hf
  split at hf
  · next r hr => exact ⟨r, hr, hf.1, hf.2.2⟩
  · exact hf.elim

theorem SystemForm.of_form {o o' : Option Record} {id : Half} (h : SystemForm o id)
    (hf : o'.map Record.form = o.map Record.form) : SystemForm o' id := by
  cases o with
  | none => exact h.elim
  | some r =>
    rw [Option.map_some] at hf
    obtain ⟨r', rfl, hr'⟩ := Option.map_eq_some_iff.mp hf
    rw [SystemForm, Record.form_eq hr']
    exact h

/-- The system records stand where their slots keep generation and form, no binding comes to a system slot, and each DOMAIN
record shows its domain's state. -/
theorem SystemsHold.of_slots {s t : State} (h : SystemsHold s)
    (hslot : ∀ i : SlotNo, i.val < 20 → t.slots[i].gen = s.slots[i].gen
      ∧ t.slots[i].record.map Record.form = s.slots[i].record.map Record.form)
    (hbind : ∀ g : Pin, ∀ b ∈ t.pins[g].binding, b ∈ s.pins[g].binding ∨ 20 ≤ b.slot.val)
    (hdom : ∀ d : Dom, t.valueAt (domainSlot d) = domStateByte t.domains[d].state) : SystemsHold t := by
  obtain ⟨h1, h2, -⟩ := h
  refine ⟨fun i id hid => ?_, fun g b hb => ?_, hdom⟩
  · obtain ⟨hg, hf⟩ := hslot i (lt_of_systemId hid)
    exact ⟨hg.trans (h1 i id hid).1, (h1 i id hid).2.of_form hf⟩
  · rcases hbind g b hb with hb | hb
    · exact h2 g b hb
    · exact hb

theorem domainSlot_val (d : Dom) : (domainSlot d).val = 12 + d.val := rfl

theorem valueAt_congr {s t : State} {i : SlotNo} (h : t.slots[i].record = s.slots[i].record) :
    t.valueAt i = s.valueAt i := by
  simp only [State.valueAt, h]

theorem State.updSub_valueAt (s : State) (i j : SlotNo) (p : Port) (f : Option Sub → Option Sub) :
    (s.updSub i p f).valueAt j = s.valueAt j := by
  simp only [State.valueAt, State.updSub_record]
  by_cases hj : j = i
  · subst hj
    rw [if_pos rfl]
    cases s.slots[j].record <;> rfl
  · rw [if_neg hj]

/-- A move that alters user slots and their bindings alone keeps the system records. -/
theorem SystemsHold.of_user {s t : State} (h : SystemsHold s) (hslot : ∀ i : SlotNo, i.val < 20 → t.slots[i] = s.slots[i])
    (hbind : ∀ g : Pin, ∀ b ∈ t.pins[g].binding, b ∈ s.pins[g].binding ∨ 20 ≤ b.slot.val)
    (hdom : t.domains = s.domains) : SystemsHold t := by
  refine h.of_slots (fun i hi => by rw [hslot i hi]; exact ⟨rfl, rfl⟩) hbind fun d => ?_
  rw [valueAt_congr (t := t) (s := s) (by rw [hslot _ (by rw [domainSlot_val]; omega)]), hdom]
  exact h.2.2 d

theorem SystemsHold.of_steady {s t : State} (h : SystemsHold s) (k : Steady s t)
    (hdom : ∀ d : Dom, t.valueAt (domainSlot d) = domStateByte t.domains[d].state) : SystemsHold t :=
  h.of_slots (fun i _ => ⟨k.gen i, k.form i⟩) (fun g b hb => .inl (by rw [← k.binding]; exact hb)) hdom

theorem State.change_valueAt (s : State) (i j : SlotNo) (v : Byte) (n : Nat) :
    (s.change i v n).valueAt j = if j = i ∧ s.slots[i].record.isSome = true then v else s.valueAt j := by
  simp only [State.valueAt, State.change_record]
  by_cases hj : j = i
  · subst hj
    cases hr : s.slots[j].record <;> simp [Record.changed]
  · simp [hj]

/-- A record given a value holds it. -/
theorem State.setValue_valueAt (s : State) (i j : SlotNo) (v : Byte) :
    (s.setValue i v).valueAt j = if j = i ∧ s.slots[i].record.isSome = true then v else s.valueAt j := by
  rw [State.setValue_eq]
  split
  · next hv =>
    split
    · next hj => rw [hj.1, hv]
    · rfl
  · exact State.change_valueAt s i j v 0

theorem Changeable.user_or_system {s : State} (h : SystemsHold s) {i : SlotNo} (hc : Changeable s i) :
    i.val < 12 ∨ 20 ≤ i.val := by
  rcases hc with hc | ⟨g, hg⟩ | ⟨hc, -⟩
  · exact .inl hc
  · obtain ⟨b, hb, rfl, -⟩ := (inputBoundTo_iff _ _).mp hg
    exact .inr (h.2.1 g b hb)
  · exact .inr hc

theorem State.retireRecord_other (s : State) {i j : SlotNo} {r : Record} (hr : s.slots[i].record = some r) (hj : j ≠ i) :
    (s.retireRecord i).slots[j] = s.slots[j] := by
  rw [State.retireRecord_slot s i r hr, if_neg hj]

theorem State.modRecord_other (s : State) {i j : SlotNo} (f : Record → Record) (hj : j ≠ i) :
    (s.modRecord i f).slots[j] = s.slots[j] := by
  rw [State.modRecord_get, if_neg hj]

theorem ne_of_user {i j : SlotNo} (hi : 20 ≤ i.val) (hj : j.val < 20) : j ≠ i := by
  rintro rfl
  omega

/-- p's entry gone, every value stands but that of its OVERDUE record. -/
theorem State.EntryLeft.valueAt {s m : State} {p : Port} {i : SlotNo} (h : s.EntryLeft p i m) {j : SlotNo}
    (hj : j ≠ overdueSlot p) : m.valueAt j = s.valueAt j := by
  rcases h with rfl | ⟨v, rfl⟩
  · rfl
  · rw [State.setValue_valueAt, if_neg fun c => hj c.1]; rfl

theorem State.EntryLeft.domains {s m : State} {p : Port} {i : SlotNo} (h : s.EntryLeft p i m) : m.domains = s.domains := by
  rcases h with rfl | ⟨v, rfl⟩
  · rfl
  · rw [State.setValue_domains]; rfl

theorem State.EntryLeft.inService {s m : State} {p : Port} {i : SlotNo} (h : s.EntryLeft p i m) (q : Port) (j : SlotNo) :
    m.inService q j = if q = p ∧ j = i then false else s.inService q j := by
  have : m.inService q j = (s.removeEntry p i).inService q j := by
    rcases h with rfl | ⟨v, rfl⟩
    · rfl
    · simp only [State.inService, State.setValue_services]
  rw [this, State.removeEntry_inService]

theorem Move.systemsHold {s t : State} (m : Move s t) (h : SystemsHold s) : SystemsHold t := by
  cases m with
  | stand k =>
    refine h.of_steady k.steady fun d => ?_
    rw [k.domains, ← h.2.2 d]
    exact valueAt_congr (by rw [k.slots])
  | @change i v n k =>
    refine h.of_steady (.change s i v n) fun d => ?_
    have hne : domainSlot d ≠ i := by
      rintro rfl
      have := k.user_or_system h
      rw [domainSlot_val] at this
      omega
    rw [State.change_valueAt, if_neg fun c => hne c.1, State.change_domains]
    exact h.2.2 d
  | domain d f =>
    refine h.of_steady ((Steady.modDomain s d f).trans (.given _ (domainSlot d) _)) fun e => ?_
    obtain ⟨r, hr, -⟩ := h.record (i := domainSlot d) (by rw [domainSlot_val]; omega)
    rw [State.setValue_valueAt, State.setValue_domains, State.modDomain_get]
    by_cases he : e = d
    · subst he
      rw [if_pos ⟨rfl, by rw [State.modDomain_slots, hr]; rfl⟩, if_pos rfl]
    · rw [if_neg he, if_neg fun c => he (Fin.ext (by have := congrArg Fin.val c.1; simp only [domainSlot_val] at this; omega))]
      exact h.2.2 e
  | sub p f k =>
    refine h.of_steady (.updSub s _ p f) fun d => ?_
    rw [State.updSub_valueAt, State.updSub_domains]
    exact h.2.2 d
  | unmark i p =>
    refine h.of_steady (.updSub s i p _) fun d => ?_
    rw [State.updSub_valueAt, State.updSub_domains]
    exact h.2.2 d
  | own o hi => exact h.of_user (fun j hj => s.modRecord_other _ (ne_of_user hi hj)) (fun g b hb => .inl hb) rfl
  | lock hi => exact h.of_user (fun j hj => s.modRecord_other _ (ne_of_user hi hj)) (fun g b hb => .inl hb) rfl
  | @bindInput g i r f a l hi =>
    refine h.of_user (fun j hj => ?_) (fun g' b hb => ?_) rfl
    · exact State.modRecord_other (s.modPin g _) _ (ne_of_user hi hj)
    · rw [State.inputBinding_pin] at hb
      split at hb
      · cases hb; exact .inr hi
      · exact .inl hb
  | @bindOutput g i r a v hi =>
    refine h.of_user (fun j hj => rfl) (fun g' b hb => ?_) rfl
    unfold State.bindOutput at hb
    rw [State.modPin_get] at hb
    split at hb
    · cases hb; exact .inr hi
    · exact .inl hb
  | @unbind g b hb =>
    have hu := h.2.1 g b hb
    refine h.of_user (fun j hj => ?_) (fun g' c hc => .inl ?_) (by rw [State.unbindFrom_frame])
    · unfold State.unbindFrom
      split
      · exact State.modRecord_other (s.modPin g PinState.unbound) _ (ne_of_user hu hj)
      · rfl
    · rw [State.unbindFrom_pin] at hc
      split at hc
      · cases hc
      · exact hc
  | @retire i r hi hr =>
    refine h.of_user (fun j hj => s.retireRecord_other hr (ne_of_user hi hj)) (fun g b hb => .inl ?_) ?_
    · rw [State.retireRecord_eq s i r hr] at hb
      have hend : ∀ b ∈ (s.endBinding i).pins[g].binding, b ∈ s.pins[g].binding := by
        intro b hb
        rcases State.endBinding_eq s i with ⟨-, e⟩ | ⟨g', c, -, -, -, e⟩
        · rw [e] at hb; exact hb
        · rw [e, State.unbindFrom_pin] at hb
          split at hb
          · cases hb
          · exact hb
      split at hb
      · simp only [State.freeSlot_pins] at hb; exact hend b hb
      · exact hend b hb
    · rw [State.retireRecord_frame s i r hr]
  | @leave m p i hm =>
    have hs : SystemsHold m := by
      refine h.of_steady hm.steady fun d => ?_
      rw [hm.valueAt, hm.domains]
      · exact h.2.2 d
      · intro e
        have := congrArg Fin.val e
        rw [domainSlot_val] at this
        simp only [overdueSlot] at this
        omega
    by_cases hd : m.isDraining i = true
    · rw [if_pos hd]
      obtain ⟨r, hr, hrd⟩ := (isDraining_iff m i).mp hd
      have hi : 20 ≤ i.val := by
        by_contra hlt
        obtain ⟨r', hr', hl, -⟩ := hs.record (i := i) (by omega)
        rw [hr, Option.some.injEq] at hr'
        rw [hr', hl] at hrd
        cases hrd
      have hu : SystemsHold (m.updSub i p fun _ => none) := by
        refine hs.of_steady (.updSub m i p _) fun d => ?_
        rw [State.updSub_valueAt, State.updSub_domains]
        exact hs.2.2 d
      rw [State.removeDraining_eq]
      split
      · refine hu.of_user (fun j hj => ?_) (fun g b hb => .inl ?_) (State.freeSlot_domains _ i)
        · rw [State.freeSlot_get, if_neg (ne_of_user hi hj)]
        · simpa only [State.freeSlot_pins] using hb
      · exact hu
    · rw [if_neg hd]
      exact hs

/-! ## DRAINING records -/

/-- A record that may be changed is LIVE. -/
theorem Changeable.live {s : State} (h : SystemsHold s) (hb : BindingsStand s) {i : SlotNo} (hc : Changeable s i) :
    ∃ r, s.slots[i].record = some r ∧ r.state = .live := by
  rcases hc with hc | ⟨g, hg⟩ | ⟨-, r, hr, hl, -⟩
  · obtain ⟨r, hr, hl, -⟩ := h.record (i := i) (by omega)
    exact ⟨r, hr, hl⟩
  · obtain ⟨r, hr, hl, -⟩ := hb.bound hg
    exact ⟨r, hr, hl⟩
  · exact ⟨r, hr, hl⟩

/-- Each DRAINING record of t stood DRAINING in s with the same subscriptions, and nothing has left service. -/
theorem DrainingInService.of_subs {s t : State} (h : DrainingInService s)
    (hrec : ∀ i : SlotNo, ∀ r ∈ t.slots[i].record, r.state = .draining →
      ∃ r' ∈ s.slots[i].record, r'.state = .draining ∧ r'.subs = r.subs)
    (hserv : ∀ (p : Port) (i : SlotNo), s.inService p i = true → t.inService p i = true) : DrainingInService t := by
  intro i r hr hd
  obtain ⟨r', hr', hd', hs⟩ := hrec i r hr hd
  obtain ⟨hn, hu⟩ := h i r' hr' hd'
  simp only [Record.noSubs, hs] at hn
  rw [hs] at hu
  exact ⟨hn, fun p u hp => ⟨hserv p i (hu p u hp).1, (hu p u hp).2⟩⟩

/-- A record altered in neither state nor subscriptions. -/
theorem DrainingInService.of_records {s t : State} (h : DrainingInService s) {i : SlotNo} (f : Record → Record)
    (hf : ∀ r, (f r).state = r.state ∧ (f r).subs = r.subs)
    (ht : ∀ j : SlotNo, t.slots[j].record = if j = i then s.slots[i].record.map f else s.slots[j].record)
    (hserv : t.services = s.services) : DrainingInService t := by
  refine h.of_subs (fun j r hr hd => ?_) fun p j hp => by rw [State.inService, hserv]; exact hp
  rw [ht] at hr
  split at hr
  · next hj =>
    subst hj
    obtain ⟨r', hr', rfl⟩ := Option.map_eq_some_iff.mp hr
    exact ⟨r', hr', (hf r').1.symm.trans hd, (hf r').2.symm⟩
  · exact ⟨r, hr, hd, rfl⟩

/-- A change of a LIVE record touches no DRAINING one. -/
theorem DrainingInService.change {s : State} (h : DrainingInService s) {i : SlotNo} {r : Record}
    (hr : s.slots[i].record = some r) (hl : r.state = .live) (v : Byte) (n : Nat) : DrainingInService (s.change i v n) := by
  refine h.of_subs (fun j x hx hd => ?_) fun p j hp => by rw [State.inService, State.change_services]; exact hp
  rw [State.change_record] at hx
  split at hx
  · rw [hr, Option.map_some] at hx
    cases hx
    exact absurd (hl.symm.trans hd) (by decide)
  · exact ⟨x, hx, hd, rfl⟩

theorem DrainingInService.setValue {s : State} (h : DrainingInService s) {i : SlotNo} {r : Record}
    (hr : s.slots[i].record = some r) (hl : r.state = .live) (v : Byte) : DrainingInService (s.setValue i v) := by
  rw [State.setValue_eq]
  split
  · exact h
  · exact h.change hr hl v 0

/-- As `DrainingInService`, but for the subscription of p on slot i. -/
def DrainingBut (s : State) (p : Port) (i : SlotNo) : Prop :=
  ∀ j : SlotNo, ∀ r ∈ s.slots[j].record, r.state = .draining →
    r.noSubs = false ∧ ∀ q : Port, ¬ (q = p ∧ j = i) → ∀ u ∈ r.subs[q], s.inService q j = true ∧ u.mark = none

/-- p's entry on slot i gone, every other subscription of a DRAINING record is in service. -/
theorem DrainingInService.entryLeft {s m : State} (h : DrainingInService s) (hs : SystemsHold s) {p : Port} {i : SlotNo}
    (hm : s.EntryLeft p i m) : DrainingBut m p i := by
  have hback : ∀ (j : SlotNo), ∀ r ∈ m.slots[j].record, r.state = .draining → r ∈ s.slots[j].record := by
    intro j r hr hd
    rcases hm with rfl | ⟨v, rfl⟩
    · exact hr
    · rw [State.setValue_eq] at hr
      split at hr
      · exact hr
      · rw [State.change_record] at hr
        split at hr
        · next hj =>
          subst hj
          obtain ⟨r', hr', rfl⟩ := Option.map_eq_some_iff.mp hr
          obtain ⟨r'', hr'', hl, -⟩ := hs.record (i := overdueSlot p) (by show 6 + p.val < 20; omega)
          rw [State.removeEntry, State.modService_slots, hr'', Option.some.injEq] at hr'
          rw [← hr'] at hd
          exact absurd (hl.symm.trans hd) (by decide)
        · exact hr
  intro j r hr hd
  obtain ⟨hn, hu⟩ := h j r (hback j r hr hd) hd
  refine ⟨hn, fun q hq u hu' => ⟨?_, (hu q u hu').2⟩⟩
  rw [hm.inService, if_neg hq]
  exact (hu q u hu').1

/-- The removal of that subscription leaves all as R18 asks. -/
theorem DrainingBut.removed {m : State} {p : Port} {i : SlotNo} (h : DrainingBut m p i) :
    DrainingInService (if m.isDraining i = true then m.removeDraining i p else m) := by
  by_cases hd : m.isDraining i = true
  · rw [if_pos hd, State.removeDraining_eq]
    have hu : ∀ (q : Port) (j : SlotNo), (m.updSub i p fun _ => none).inService q j = m.inService q j := fun q j => by
      simp only [State.inService, State.updSub_services]
    have hother : ∀ (j : SlotNo), j ≠ i → ∀ r ∈ m.slots[j].record, r.state = .draining →
        r.noSubs = false ∧ ∀ q : Port, ∀ u ∈ r.subs[q], m.inService q j = true ∧ u.mark = none :=
      fun j hj r hr hrd => ⟨(h j r hr hrd).1, fun q => (h j r hr hrd).2 q fun c => hj c.2⟩
    split
    · intro j r hr hrd
      rw [State.freeSlot_record] at hr
      split at hr
      · cases hr
      · next hj =>
        rw [State.updSub_record, if_neg hj] at hr
        obtain ⟨hn, hs⟩ := hother j hj r hr hrd
        refine ⟨hn, fun q u hq => ?_⟩
        simp only [State.inService, State.freeSlot_services, State.updSub_services]
        exact hs q u hq
    · next hno =>
      intro j r hr hrd
      simp only [hu]
      by_cases hj : j = i
      · subst hj
        refine ⟨?_, fun q u hq => ?_⟩
        · simp only [State.noSubsAt] at hno
          rw [Option.mem_def.mp hr] at hno
          exact Bool.not_eq_true _ ▸ hno
        · rw [State.updSub_record, if_pos rfl] at hr
          obtain ⟨r', hr', rfl⟩ := Option.map_eq_some_iff.mp hr
          simp only [set_get] at hq
          split at hq
          · cases hq
          · next hqp => exact (h j r' hr' hrd).2 q (fun c => hqp c.1) u hq
      · rw [State.updSub_record, if_neg hj] at hr
        exact hother j hj r hr hrd
  · rw [if_neg hd]
    intro j r hr hrd
    refine ⟨(h j r hr hrd).1, fun q => (h j r hr hrd).2 q fun c => hd ?_⟩
    rw [isDraining_iff, ← c.2]
    exact ⟨r, hr, hrd⟩

theorem Move.drainingInService {s t : State} (m : Move s t) (hs : SystemsHold s) (hb : BindingsStand s)
    (h : DrainingInService s) : DrainingInService t := by
  cases m with
  | stand k => exact h.of_subs (fun i r hr hd => ⟨r, by rw [← k.slots]; exact hr, hd, rfl⟩) k.service
  | change v n k =>
    obtain ⟨r, hr, hl⟩ := k.live hs hb
    exact h.change hr hl v n
  | domain d f =>
    obtain ⟨r, hr, hl, -⟩ := hs.record (i := domainSlot d) (by rw [domainSlot_val]; omega)
    exact DrainingInService.setValue (s := s.modDomain d f) h hr hl _
  | @sub i p f k =>
    refine h.of_subs (fun j r hr hd => ?_) fun q j hq => by rw [State.inService, State.updSub_services]; exact hq
    rw [State.updSub_record] at hr
    split at hr
    · obtain ⟨r', hr', rfl⟩ := Option.map_eq_some_iff.mp hr
      rw [(isDraining_iff s i).mpr ⟨r', hr', hd⟩] at k
      cases k
    · exact ⟨r, hr, hd, rfl⟩
  | unmark i p =>
    intro j r hr hd
    have hserv : ∀ q, (s.updSub i p unmarked).inService q j = s.inService q j := fun q => by
      simp only [State.inService, State.updSub_services]
    simp only [hserv]
    rw [State.updSub_record] at hr
    split at hr
    · next hj =>
      subst hj
      obtain ⟨r', hr', rfl⟩ := Option.map_eq_some_iff.mp hr
      obtain ⟨hn, hu⟩ := h j r' hr' hd
      refine ⟨?_, fun q u hq => ?_⟩
      · rw [← Bool.not_eq_true, Record.noSubs_iff] at hn ⊢
        refine fun hc => hn fun q => ?_
        have hcq := hc q
        simp only [set_get] at hcq
        split at hcq
        · next hq => rw [hq]; exact Option.map_eq_none_iff.mp hcq
        · exact hcq
      · simp only [set_get] at hq
        split at hq
        · next hqp =>
          subst hqp
          obtain ⟨u', hu', rfl⟩ := Option.map_eq_some_iff.mp hq
          exact ⟨(hu q u' hu').1, rfl⟩
        · exact hu q u hq
    · exact h j r hr hd
  | @own i r o =>
    exact h.of_records (fun r => { r with owner := o }) (fun _ => ⟨rfl, rfl⟩) (fun j => s.modRecord_record i j _) rfl
  | @lock i =>
    exact h.of_records (fun r => { r with locked := true }) (fun _ => ⟨rfl, rfl⟩) (fun j => s.modRecord_record i j _) rfl
  | @bindInput g i r f a l =>
    exact h.of_records (fun r => { r with owner := .pin g }) (fun _ => ⟨rfl, rfl⟩)
      (fun j => s.inputBinding_record g i j f a l) rfl
  | bindOutput => exact h.of_subs (fun i r hr hd => ⟨r, hr, hd, rfl⟩) fun _ _ hp => hp
  | @unbind g b =>
    have hserv : (s.unbindFrom g b).services = s.services := by rw [State.unbindFrom_frame]
    have hrec := s.unbindFrom_record g b
    by_cases hd : b.dir ≠ .output
    · simp only [and_iff_left hd] at hrec
      exact h.of_records (fun r => { r with owner := .nobody }) (fun _ => ⟨rfl, rfl⟩) hrec hserv
    · refine h.of_subs (fun j r hr hrd => ⟨r, ?_, hrd, rfl⟩) fun q j hq => by rw [State.inService, hserv]; exact hq
      rw [hrec, if_neg fun c => hd c.2] at hr
      exact hr
  | @retire i r hi hr =>
    intro j x hx hd
    have hserv : ∀ q, (s.retireRecord i).inService q j = s.inService q j := fun q => by
      rw [State.inService, State.retireRecord_services s i r hr, State.inService]
    simp only [hserv]
    rw [State.retireRecord_slot s i r hr] at hx
    split at hx
    · next hj =>
      subst hj
      split at hx
      · cases hx
      · next hno =>
        cases hx
        refine ⟨?_, fun q u hq => ?_⟩
        · rw [← Bool.not_eq_true, Record.noSubs_iff]
          refine fun hc => hno fun q => ?_
          have := hc q
          simpa only [State.retiredRecord, ofFn_get] using this
        · simp only [State.retiredRecord, ofFn_get, State.retiredSub] at hq
          split at hq
          · next hin =>
            obtain ⟨u', -, rfl⟩ := Option.map_eq_some_iff.mp hq
            exact ⟨hin, rfl⟩
          · cases hq
    · exact h j x hx hd
  | leave p i hm => exact (h.entryLeft hs hm).removed

/-! ## Locked records -/

theorem LockedRecordsKept.refl (s : State) : LockedRecordsKept s s := by
  intro i _ r hr _ _
  rw [Option.mem_def.mp hr]
  exact ⟨rfl, rfl⟩

/-- A LIVE locked user record as `LockedRecordsKept` leaves it. -/
theorem LockedRecordsKept.record {s t : State} (h : LockedRecordsKept s t) {i : SlotNo} (hi : 20 ≤ i.val) {r : Record}
    (hr : s.slots[i].record = some r) (hl : r.state = .live) (hk : r.locked = true) :
    t.slots[i].gen = s.slots[i].gen ∧ ∃ subs, t.slots[i].record = some { r with subs := subs } := by
  obtain ⟨hg, hm⟩ := h i hi r hr hl hk
  refine ⟨hg, ?_⟩
  split at hm
  · next r' hr' => exact ⟨r'.subs, hr'.trans (congrArg some hm)⟩
  · exact hm.elim

theorem LockedRecordsKept.of_records {s t : State}
    (h : ∀ (i : SlotNo), 20 ≤ i.val → ∀ r, s.slots[i].record = some r → r.state = .live → r.locked = true →
      t.slots[i].gen = s.slots[i].gen ∧ ∃ subs, t.slots[i].record = some { r with subs := subs }) : LockedRecordsKept s t := by
  intro i hi r hr hl hk
  obtain ⟨hg, subs, hs⟩ := h i hi r hr hl hk
  rw [hs]
  exact ⟨hg, rfl⟩

theorem LockedRecordsKept.trans {s t u : State} (h : LockedRecordsKept s t) (k : LockedRecordsKept t u) :
    LockedRecordsKept s u := by
  refine .of_records fun i hi r hr hl hk => ?_
  obtain ⟨hg, subs, hs⟩ := h.record hi hr hl hk
  obtain ⟨hg', subs', hs'⟩ := k.record hi hs hl hk
  exact ⟨hg'.trans hg, subs', hs'⟩

theorem Changeable.unlocked {s : State} (hb : BindingsStand s) {i : SlotNo} (hc : Changeable s i) (hi : 20 ≤ i.val)
    {r : Record} (hr : s.slots[i].record = some r) : r.locked = false := by
  rcases hc with hc | ⟨g, hg⟩ | ⟨-, r', hr', -, hk⟩
  · omega
  · obtain ⟨r', hr', -, -, -, hk⟩ := hb.bound hg
    rw [hr, Option.some.injEq] at hr'
    rw [hr', hk]
  · rw [hr, Option.some.injEq] at hr'
    rw [hr', hk]

/-- A move in which each LIVE locked user record keeps all but its subscriptions; its generation stands in any case. -/
theorem Move.kept_of {s t : State} (m : Move s t)
    (h : ∀ (i : SlotNo), 20 ≤ i.val → ∀ r, s.slots[i].record = some r → r.state = .live → r.locked = true →
      ∃ subs, t.slots[i].record = some { r with subs := subs }) : LockedRecordsKept s t :=
  .of_records fun i hi r hr hl hk => ⟨m.gen i, h i hi r hr hl hk⟩

theorem State.setValue_other (s : State) {i j : SlotNo} (v : Byte) (hj : j ≠ i) :
    (s.setValue i v).slots[j] = s.slots[j] := by
  rw [State.setValue_eq]
  split
  · rfl
  · rw [State.change_get, if_neg hj]

theorem State.updSub_some (s : State) (i j : SlotNo) (p : Port) (f : Option Sub → Option Sub) {r : Record}
    (hr : s.slots[j].record = some r) :
    ∃ subs, (s.updSub i p f).slots[j].record = some { r with subs := subs } := by
  rw [State.updSub_record]
  split
  · next hj => subst hj; exact ⟨_, by rw [hr]; rfl⟩
  · exact ⟨r.subs, hr⟩

theorem Move.locked {s t : State} (m : Move s t) (hb : BindingsStand s) : LockedRecordsKept s t := by
  refine m.kept_of fun j hj r hr hl hk => ?_
  cases m with
  | stand k => exact ⟨r.subs, by rw [k.slots]; exact hr⟩
  | @change i v n k =>
    refine ⟨r.subs, ?_⟩
    rw [State.change_record, if_neg]
    · exact hr
    · rintro rfl
      rw [k.unlocked hb hj hr] at hk
      cases hk
  | domain d f =>
    refine ⟨r.subs, ?_⟩
    rw [State.setValue_other]
    · exact hr
    · rintro rfl
      rw [domainSlot_val] at hj
      omega
  | sub p f => exact s.updSub_some _ j p f hr
  | unmark i p => exact s.updSub_some i j p _ hr
  | own o hi hr' hk' =>
    refine ⟨r.subs, ?_⟩
    rw [State.modRecord_record, if_neg]
    · exact hr
    · rintro rfl
      rw [hr, Option.some.injEq] at hr'
      rw [hr', hk'] at hk
      cases hk
  | lock =>
    refine ⟨r.subs, ?_⟩
    rw [State.modRecord_record]
    split
    · next hji =>
      subst hji
      rw [hr, Option.map_some]
      simp only [← hk]
    · exact hr
  | bindInput f a l hi hr' hl' hv hk' =>
    refine ⟨r.subs, ?_⟩
    rw [State.inputBinding_record, if_neg]
    · exact hr
    · rintro rfl
      rw [hr, Option.some.injEq] at hr'
      rw [hr', hk'] at hk
      cases hk
  | bindOutput => exact ⟨r.subs, hr⟩
  | @unbind g b hg =>
    refine ⟨r.subs, ?_⟩
    rw [State.unbindFrom_record, if_neg]
    · exact hr
    · rintro ⟨rfl, hd⟩
      obtain ⟨r', hr', -, -, -, hk'⟩ := hb.bound ((inputBoundTo_iff _ _).mpr ⟨b, hg, rfl, hd⟩)
      rw [hr, Option.some.injEq] at hr'
      rw [hr', hk'] at hk
      cases hk
  | @retire i r' hi hr' hl' hk' =>
    refine ⟨r.subs, ?_⟩
    rw [State.retireRecord_slot s i r' hr', if_neg]
    · exact hr
    · rintro rfl
      rw [hr, Option.some.injEq] at hr'
      rw [hr', hk'] at hk
      cases hk
  | @leave m p i hm =>
    have hrm : m.slots[j].record = some r := by
      rcases hm with rfl | ⟨v, rfl⟩
      · exact hr
      · rw [State.setValue_other]
        · exact hr
        · rintro rfl
          simp only [overdueSlot] at hj
          omega
    by_cases hd : m.isDraining i = true
    · have hne : j ≠ i := by
        rintro rfl
        obtain ⟨r', hr', hrd⟩ := (isDraining_iff m j).mp hd
        rw [hrm, Option.some.injEq] at hr'
        rw [← hr', hl] at hrd
        cases hrd
      refine ⟨r.subs, ?_⟩
      rw [if_pos hd, State.removeDraining_eq]
      split
      · rw [State.freeSlot_record, if_neg hne, State.updSub_record, if_neg hne]
        exact hrm
      · rw [State.updSub_record, if_neg hne]
        exact hrm
    · rw [if_neg hd]
      exact ⟨r.subs, hrm⟩

/-- No run of moves touches a LIVE locked user record but for its subscriptions (R23). -/
theorem Moves.locked {s t : State} (m : Moves s t) (hb : BindingsStand s) : LockedRecordsKept s t :=
  (m.keep (P := fun u => BindingsStand u ∧ LockedRecordsKept s u)
    (fun _ _ hm hp => ⟨hm.bindingsStand hp.1, hp.2.trans (hm.locked hp.1)⟩) ⟨hb, .refl s⟩).2

end Sys2Proof.Machine
end

section
/-! What every row does: nothing the directory's invariants look at, a reset, a declaration, or a run of moves. The moves of
each shared operation come first, then those of each command and request. -/

namespace Sys2Proof.Machine

open Sys2Proof

/-! ## Updates that the directory's invariants do not see -/

theorem Stands.trans {s t u : State} (h : Stands s t) (k : Stands t u) : Stands s u where
  rstLow := k.rstLow.trans h.rstLow
  idMap := k.idMap.trans h.idMap
  slots := k.slots.trans h.slots
  domains d := (k.domains d).trans (h.domains d)
  pins g := by
    obtain ⟨h1, h2, h3⟩ := h.pins g
    obtain ⟨k1, k2, k3⟩ := k.pins g
    exact ⟨k1.trans h1, k2.trans h2, k3.trans h3⟩
  straps p := ⟨(k.straps p).1.trans (h.straps p).1, (k.straps p).2.trans (h.straps p).2⟩
  service p i hi := k.service p i (h.service p i hi)

theorem Stands.modPort (s : State) (p : Port) (f : PortState → PortState)
    (hf : (f s.ports[p]).enabled = s.ports[p].enabled ∧ (f s.ports[p]).cls = s.ports[p].cls) : Stands s (s.modPort p f) where
  rstLow := rfl
  idMap := rfl
  slots := rfl
  domains _ := rfl
  pins _ := .refl _
  straps q := by
    rw [State.modPort_get]
    split
    · next hq => subst hq; exact hf
    · exact ⟨rfl, rfl⟩
  service _ _ h := h

theorem Stands.modPin (s : State) (g : Pin) (f : PinState → PinState) (hf : SameWire s.pins[g] (f s.pins[g])) :
    Stands s (s.modPin g f) where
  rstLow := rfl
  idMap := rfl
  slots := rfl
  domains _ := rfl
  pins h := by
    rw [State.modPin_get]
    split
    · next hg => subst hg; exact hf
    · exact .refl _
  straps _ := ⟨rfl, rfl⟩
  service _ _ h := h

theorem Stands.modService (s : State) (p : Port) (f : Service → Service)
    (hf : ∀ i : SlotNo, (s.services[p].list.any fun e => e.slot = i) = true → ((f s.services[p]).list.any fun e => e.slot = i) = true) :
    Stands s (s.modService p f) where
  rstLow := rfl
  idMap := rfl
  slots := rfl
  domains _ := rfl
  pins _ := .refl _
  straps _ := ⟨rfl, rfl⟩
  service q i hi := by
    rw [State.inService, State.modService_get]
    split
    · next hq => subst hq; exact hf i hi
    · exact hi

theorem Stands.modDomain (s : State) (d : Dom) (f : DomainEntry → DomainEntry)
    (hf : (f s.domains[d]).state = s.domains[d].state) : Stands s (s.modDomain d f) where
  rstLow := rfl
  idMap := rfl
  slots := rfl
  domains e := by
    rw [State.modDomain_get]
    split
    · next he => subst he; exact hf
    · rfl
  pins _ := .refl _
  straps _ := ⟨rfl, rfl⟩
  service _ _ h := h

/-- Timers, flags, the divider, the arbiter's own items and the model's two fields are not looked at. -/
theorem Stands.of_eq {s t : State} (h1 : t.rstLow = s.rstLow) (h2 : t.idMap = s.idMap) (h3 : t.slots = s.slots)
    (h4 : t.domains = s.domains) (h5 : t.pins = s.pins) (h6 : t.ports = s.ports) (h7 : t.services = s.services) :
    Stands s t where
  rstLow := h1
  idMap := h2
  slots := h3
  domains d := by rw [h4]
  pins g := by rw [h5]; exact .refl _
  straps p := by rw [h6]; exact ⟨rfl, rfl⟩
  service p i h := by rw [State.inService, h7]; exact h

theorem Stands.modDeadline (s : State) (p : Port) (k : Prio) (f : DeadlineUnit → DeadlineUnit) :
    Stands s (s.modDeadline p k f) := .of_eq rfl rfl rfl rfl rfl rfl rfl

theorem Stands.modWarning (s : State) (d : Dom) (f : WarningUnit → WarningUnit) : Stands s (s.modWarning d f) :=
  .of_eq rfl rfl rfl rfl rfl rfl rfl

theorem Stands.owe (s : State) (p : Port) : Stands s (s.owe p) := .modPort s p _ ⟨rfl, rfl⟩

theorem Stands.sendAnswer (s : State) (p : Port) (a : Answer) : Stands s (s.sendAnswer p a) := .modPort s p _ ⟨rfl, rfl⟩

theorem Stands.sendIndications (s : State) : Stands s s.sendIndications where
  rstLow := rfl
  idMap := rfl
  slots := rfl
  domains _ := rfl
  pins _ := .refl _
  straps q := by rw [State.sendIndications_get]; exact ⟨rfl, rfl⟩
  service _ _ h := h

theorem Stands.clearFlag (s : State) (r : Taking) : Stands s (s.clearFlag r) := by
  cases r with
  | teardown p => exact .modPort s p (fun q => { q with teardown := false }) ⟨rfl, rfl⟩
  | notice p v => exact .modPort s p (fun q => { q with notice := none }) ⟨rfl, rfl⟩
  | deadline p k f => exact .modDeadline s p k fun u => { u with flag := none }
  | warning d serial => exact .modWarning s d fun u => { u with flag := none }
  | pinUpdate g serial => exact .modPin s g (fun x => { x with flag := none }) ⟨rfl, rfl, rfl⟩
  | command p q => exact .modPort s p (fun q => { q with submit := q.submit.tail }) ⟨rfl, rfl⟩

theorem Stands.withTaking (s : State) (o : Option Taking) : Stands s { s with taking := o } :=
  .of_eq rfl rfl rfl rfl rfl rfl rfl

theorem Stands.taken (s : State) (r : Taking) : Stands s (s.taken r) := by
  rw [State.taken_spec]
  split
  · exact .clearFlag s r
  · exact .withTaking s none

theorem Stands.serving (s : State) (p : Port) (q : Queued) : Stands s (s.serving p q) :=
  (Stands.taken s (.command p q)).trans (.of_eq rfl rfl rfl rfl rfl rfl rfl)

theorem Stands.engaged (s : State) : Stands s s.engaged := by
  rw [State.engaged_spec]
  split
  · exact (Stands.clearFlag s _).trans (.withTaking _ _)
  · exact .refl s
  · exact .refl s

theorem PinState.sampled_wire (x : PinState) (l : Level) : SameWire x (x.sampled l) := by
  unfold PinState.sampled
  split
  · split
    · exact ⟨rfl, by simp, rfl⟩
    · exact ⟨rfl, rfl, rfl⟩
  · exact ⟨rfl, rfl, rfl⟩

theorem Stands.ticked (s : State) (board : Board) : Stands s (s.ticked board) where
  rstLow := rfl
  idMap := rfl
  slots := rfl
  domains _ := rfl
  pins g := by
    simp only [State.ticked, ofFn_get]
    exact PinState.sampled_wire _ _
  straps _ := ⟨rfl, rfl⟩
  service _ _ h := h

/-! ## Moves of the shared operations -/

theorem Stands.moves {s t : State} (h : Stands s t) : Moves s t := (Move.stand h).moves

/-- A fold of operations each of which is a run of moves is one. -/
theorem Moves.foldl {α : Type} {op : State → α → State} (h : ∀ s a, Moves s (op s a)) (l : List α) (s : State) :
    Moves s (l.foldl op s) := by
  induction l generalizing s with
  | nil => exact .refl s
  | cons a l ih => exact (h s a).trans (ih (op s a))

/-- The same where a count goes with the state; the operation may ask that the item is in the list. -/
theorem Moves.foldl_counted {α : Type} {op : State × Nat → α → State × Nat} {l : List α}
    (h : ∀ acc, ∀ a ∈ l, Moves acc.1 (op acc a).1) (acc : State × Nat) : Moves acc.1 (l.foldl op acc).1 := by
  induction l generalizing acc with
  | nil => exact .refl _
  | cons a l ih =>
    exact (h acc a List.mem_cons_self).trans (ih (fun acc b hb => h acc b (List.mem_cons_of_mem _ hb)) (op acc a))

theorem isSystemSlot_iff (i : SlotNo) : isSystemSlot i = true ↔ i.val < 20 :=
  decide_eq_true_iff (p := i.val < Config.firstUserSlot)

theorem not_isSystemSlot {i : SlotNo} (h : ¬ isSystemSlot i = true) : 20 ≤ i.val := by
  rw [isSystemSlot_iff] at h
  omega

theorem mem_userSlots {i : SlotNo} : i ∈ userSlots ↔ 20 ≤ i.val := by
  have := isSystemSlot_iff i
  simp only [userSlots, List.mem_filter, List.mem_finRange, true_and, Bool.not_eq_true', ← Bool.not_eq_true, this, Nat.not_lt]

/-- What the sweep returns to its default is LIVE, LEVEL and unlocked, and of the domain (R103). -/
theorem Record.sweepTarget_some {r : Record} {d : Dom} {v : Byte} (h : r.sweepTarget d = some v) :
    r.state = .live ∧ r.domain = some d ∧ r.kind = .level ∧ r.locked = false ∧ r.dflt = some v ∧ r.value ≠ v := by
  unfold Record.sweepTarget at h
  split at h
  · next hc =>
    split at h
    · next w hw =>
      split at h
      · cases h
      · next hne => cases h; exact ⟨hc.1, hc.2.1, hc.2.2.1, hc.2.2.2, hw, hne⟩
    · cases h
  · cases h

theorem Moves.sweep (s : State) (d : Dom) : Moves s (s.sweep d).1 := by
  refine Moves.foldl_counted (fun acc i hi => ?_) (s, 0)
  unfold State.sweepSlot
  split
  · exact .refl _
  · next r hr =>
    split
    · exact .refl _
    · next v hv =>
      obtain ⟨hl, -, -, hk, -⟩ := Record.sweepTarget_some hv
      exact (Move.change v 0 (.inr (.inr ⟨mem_userSlots.mp hi, r, hr, hl, hk⟩))).moves

theorem Moves.enterHeld (s : State) (d : Dom) : Moves s (s.enterHeld d) :=
  (Move.domain d fun x => { x with state := .held }).moves

theorem Stands.cancelWarningTimer (s : State) (d : Dom) : Stands s (s.cancelWarningTimer d) := .modWarning s d _

theorem Moves.endWarning (s : State) (d : Dom) : Moves s (s.endWarning d).1 := by
  unfold State.endWarning
  dsimp only
  refine Moves.trans ?_ (.enterHeld _ d)
  refine Moves.trans ?_ (Stands.modDomain _ d (fun x => { x with timeout := 0#8 }) rfl).moves
  refine Moves.trans ?_ (.sweep _ d)
  exact ((Stands.cancelWarningTimer s d).trans
    (.modDomain _ d (fun x => { x with awaited := Vector.replicate 6 false }) rfl)).moves

theorem Moves.depart (s : State) (d : Dom) (p : Port) : Moves s (s.depart d p) := by
  have h := (Stands.modDomain s d (fun x => { x with awaited := x.awaited.set p false }) rfl).moves
  unfold State.depart
  split
  · dsimp only
    split
    · exact h.trans (.endWarning _ d)
    · exact h
  · exact .refl s

theorem Moves.departOn (s : State) (i : SlotNo) (p : Port) : Moves s (s.departOn i p) := by
  unfold State.departOn
  split
  · exact .refl s
  · exact .depart s _ p

theorem State.updSub_isDraining (s : State) (i j : SlotNo) (p : Port) (f : Option Sub → Option Sub) :
    (s.updSub i p f).isDraining j = s.isDraining j := by
  simp only [State.isDraining, State.updSub_record]
  by_cases hj : j = i
  · subst hj
    rw [if_pos rfl]
    cases s.slots[j].record <;> rfl
  · rw [if_neg hj]

theorem isDraining_of_live {s : State} {i : SlotNo} {r : Record} (hr : s.slots[i].record = some r) (hl : r.state = .live) :
    s.isDraining i = false := by
  simp only [State.isDraining, hr, hl, reduceCtorEq, decide_false]

theorem isDraining_of_isLive {s : State} {i : SlotNo} (h : s.isLive i = true) : s.isDraining i = false := by
  obtain ⟨r, hr, hl⟩ := (isLive_iff s i).mp h
  exact isDraining_of_live hr hl

theorem Moves.updSub {s : State} {i : SlotNo} (h : s.isDraining i = false) (p : Port) (f : Option Sub → Option Sub) :
    Moves s (s.updSub i p f) := (Move.sub p f h).moves

theorem Moves.heldEvaluation {s : State} {i : SlotNo} (h : s.isDraining i = false) (p : Port) :
    Moves s (s.heldEvaluation i p) := .updSub h p _

theorem Stands.cancelDeadline (s : State) (p : Port) (k : Prio) (c : DeadlineClass) : Stands s (s.cancelDeadline p k c) := by
  unfold State.cancelDeadline
  split
  · exact .refl s
  · exact .modDeadline s p k _

theorem Stands.cancelFor (s : State) (p : Port) (i : SlotNo) : Stands s (s.cancelFor p i) := by
  unfold State.cancelFor
  split
  · exact .refl s
  · exact .cancelDeadline s p _ _

/-! ## Moves of the internal requests -/

theorem Moves.expire (s : State) (p : Port) (f : DeadlineFlag) : Moves s (s.expire p f) := by
  unfold State.expire
  split
  · refine (Stands.modService s p _ fun i hi => ?_).moves.trans (.setValue _ (.inl ?_))
    · rw [List.any_map]
      refine (congrArg (List.any _) (funext fun e => ?_)).trans hi
      dsimp only [Function.comp]
      split <;> rfl
    · show 6 + p.val < 12
      omega
  · exact .refl s

theorem Moves.warningExpires (s : State) (d : Dom) (serial : Byte) : Moves s (s.warningExpires d serial) := by
  unfold State.warningExpires
  split
  · exact .endWarning s d
  · exact .refl s

/-- A pin with a level to apply has an INPUT binding. -/
theorem PinState.applied_some {x : PinState} {i : SlotNo} {v : Byte} (h : x.applied = some (i, v)) :
    ∃ b f c, x.binding = some b ∧ x.input = some f ∧ b.dir = .input c ∧ b.slot = i ∧ v = inputValue b.active f.accepted := by
  unfold PinState.applied at h
  split at h
  · next b f hb hf =>
    split at h
    · next c hd => cases h; exact ⟨b, f, c, hb, hf, hd, rfl, rfl⟩
    · cases h
  · cases h

theorem Changeable.of_applied {s : State} {g : Pin} {i : SlotNo} {v : Byte} (h : s.pins[g].applied = some (i, v)) :
    Changeable s i := by
  obtain ⟨b, -, c, hb, -, hd, hs, -⟩ := PinState.applied_some h
  exact .inr (.inl ⟨g, (inputBoundTo_iff _ _).mpr ⟨b, hb, hs, by rw [hd]; simp⟩⟩)

theorem Moves.pinUpdates (s : State) (g : Pin) (serial : Byte) : Moves s (s.pinUpdates g serial) := by
  unfold State.pinUpdates
  split
  · split
    · exact .refl s
    · next i v ha =>
      split
      · exact .refl s
      · exact .setValue v (.of_applied ha)
  · exact .refl s

theorem Moves.dropEntry (p : Port) (s : State) (e : Entry) : Moves s (State.dropEntry p s e) :=
  (Stands.cancelFor s p e.slot).moves.tail (.leave p e.slot (.inl rfl))

theorem Moves.settleSub (p : Port) (s : State) (i : SlotNo) : Moves s (State.settleSub p s i) := by
  unfold State.settleSub
  split
  · next hl =>
    have hd := isDraining_of_isLive hl
    split
    · exact .refl s
    · split
      · exact .heldEvaluation hd p
      · exact .updSub hd p _
  · exact .refl s

theorem Moves.orphanRecord {s : State} {p : Port} {i : SlotNo} {r : Record} (hi : 20 ≤ i.val)
    (hr : s.slots[i].record = some r) (hl : r.state = .live) (ho : r.owner = .port p) (hk : r.locked = false) :
    Moves s (s.orphanRecord i r) := by
  have hown := (Move.own (s := s) .nobody hi hr hk (by rw [ho]; trivial) trivial).moves
  have hr' : (s.modRecord i fun r => { r with owner := .nobody }).slots[i].record = some { r with owner := .nobody } := by
    rw [State.modRecord_record, if_pos rfl, hr, Option.map_some]
  unfold State.orphanRecord
  split
  · exact (Move.retire hi hr hl hk).moves
  · dsimp only
    split
    · exact hown.trans (.setValue _ (.inr (.inr ⟨hi, _, hr', hl, hk⟩)))
    · exact hown
    · exact hown
  · exact hown
  · exact hown

theorem Moves.orphanRecords (s : State) (p : Port) : Moves s (s.orphanRecords p) := by
  unfold State.orphanRecords
  suffices h : ∀ l : List SlotNo, (∀ i ∈ l, 20 ≤ i.val) → ∀ s : State, Moves s (l.foldl (State.orphanSlot p) s) from
    h userSlots (fun i hi => mem_userSlots.mp hi) s
  intro l hl
  induction l with
  | nil => exact .refl
  | cons i l ih =>
    intro s
    refine Moves.trans ?_ (ih (fun j hj => hl j (List.mem_cons_of_mem _ hj)) _)
    unfold State.orphanSlot
    split
    · exact .refl s
    · next r hr =>
      split
      · next hc => exact .orphanRecord (hl i List.mem_cons_self) hr hc.1 hc.2.1 hc.2.2
      · exact .refl s

theorem Moves.teardown (s : State) (p : Port) : Moves s (s.teardown p) := by
  unfold State.teardown State.completeTeardown State.settleSystemRecords
  refine Moves.trans ?_ ((Stands.modPort _ p (fun q => { q with inCompletion := true }) ⟨rfl, rfl⟩).trans (.owe _ p)).moves
  refine Moves.trans ?_ (.setValue (i := linkSlot p) _ (.inl (Nat.lt_of_lt_of_le p.isLt (by decide))))
  refine Moves.trans ?_ (.setValue (i := overdueSlot p) _ (.inl (Nat.add_lt_add_left p.isLt 6)))
  refine Moves.trans ?_ (.orphanRecords _ p)
  refine Moves.trans ?_ (.foldl (fun t d => .depart t d p) (List.finRange 8) _)
  refine Moves.trans ?_ (Stands.modService _ p (fun v =>
    { v with threshold := Service.cold.threshold, rotation := Service.cold.rotation,
             tokenCounter := Service.cold.tokenCounter }) fun _ h => h).moves
  exact Moves.trans (.foldl (.dropEntry p) s.services[p].list s) (.foldl (.settleSub p) (List.finRange 128) _)

/-! ## Moves of the commands -/

theorem Moves.withHandle {s : State} {pass : Bool} {h : Handle} {act : SlotNo → Record → Done}
    (hact : ∀ i r, s.slots[i].record = some r → (pass = false → r.state = .live) → Moves s (act i r).state) :
    Moves s (s.withHandle pass h act).state := by
  unfold State.withHandle
  cases hc : s.checkHandle pass h with
  | error e => exact .refl s
  | ok x =>
    obtain ⟨i, r⟩ := x
    rw [State.checkHandle_spec] at hc
    split at hc
    · next hs =>
      split at hc
      · cases hc
      · next r' hr' =>
        split at hc
        · cases hc
        · split at hc
          · cases hc
          · next hd =>
            cases hc
            refine hact _ _ hr' fun hp => ?_
            cases hst : r.state with
            | live => rfl
            | draining => exact absurd ⟨hst, hp⟩ hd
    · cases hc

theorem Moves.controlOnly {s : State} {p : Port} {act : State → Done} (h : Moves s (act s).state) :
    Moves s (Machine.controlOnly s p act).state := by
  unfold Machine.controlOnly
  split
  · exact .refl s
  · exact h

/-- Either outcome of a check being a run of moves, the command is one. -/
theorem Moves.ite {s : State} {c : Prop} [Decidable c] {a b : Done} (ha : c → Moves s a.state) (hb : ¬ c → Moves s b.state) :
    Moves s (if c then a else b).state := by
  split
  · next h => exact ha h
  · next h => exact hb h

theorem Moves.retireCommand (s : State) (p : Port) (h : Handle) : Moves s (s.retire p h).state := by
  refine .withHandle fun i r hr hl => .ite (fun _ => .refl s) fun hi => .ite (fun _ => .refl s) fun hk => .ite
    (fun _ => ?_) fun _ => .refl s
  dsimp only
  exact (Move.retire (not_isSystemSlot hi) hr (hl rfl) (Bool.eq_false_of_not_eq_true hk)).moves

theorem Moves.claim (s : State) (p : Port) (h : Handle) : Moves s (s.claim p h).state := by
  refine .withHandle fun i r hr hl => .ite (fun _ => .refl s) fun hi => .ite (fun _ => .refl s) fun hk => ?_
  split
  · next ho =>
    exact (Move.own (.port p) (not_isSystemSlot hi) hr (Bool.eq_false_of_not_eq_true hk) (by rw [ho]; trivial) trivial).moves
  · exact .ite (fun _ => .refl s) fun _ => .refl s
  · exact .refl s
  · exact .refl s

theorem Moves.lookup (s : State) (id : Half) : Moves s (s.lookup id).state := by
  unfold State.lookup
  split
  · exact .refl s
  · split <;> exact .refl s

theorem Moves.lockCommand (s : State) (p : Port) (h : Handle) : Moves s (s.lock p h).state :=
  .controlOnly (.withHandle fun _ _ _ _ => .ite (fun _ => .refl s) fun hi => .ite (fun _ => .refl s) fun hb =>
    (Move.lock (not_isSystemSlot hi) (Bool.eq_false_of_not_eq_true hb)).moves)

/-- A write that nothing refuses is to an unlocked record. -/
theorem State.writeRefusal_none {s : State} {p : Port} {k : Kind} {r : Record} (h : s.writeRefusal p k r = none) :
    r.kind = k ∧ r.locked = false ∧ r.owner = .port p ∧ s.domainHeld r.domain = false := by
  unfold State.writeRefusal at h
  split at h
  · cases h
  · split at h
    · cases h
    · split at h
      · cases h
      · split at h
        · cases h
        · exact ⟨not_not.mp ‹_›, by simpa using ‹¬ r.locked = true›, not_not.mp ‹_›, by simpa using ‹¬ s.domainHeld _ = true›⟩

theorem Moves.writeValue {s : State} {i : SlotNo} {r : Record} (v : Byte) (h : Changeable s i) :
    Moves s (s.writeValue i r v).state := by
  unfold State.writeValue
  split
  · exact .refl s
  · exact (Move.change v 0 h).moves

theorem Moves.set (s : State) (p : Port) (h : Handle) (v : Byte) : Moves s (s.set p h v).state := by
  refine .withHandle fun i r hr hl => .ite (fun _ => .refl s) fun hi => ?_
  split
  · exact .refl s
  · next hw => exact .writeValue v (.inr (.inr ⟨not_isSystemSlot hi, r, hr, hl rfl, (State.writeRefusal_none hw).2.1⟩))

theorem Moves.setIf (s : State) (p : Port) (h : Handle) (e : Half) (v : Byte) : Moves s (s.setIf p h e v).state := by
  refine .withHandle fun i r hr hl => .ite (fun _ => .refl s) fun hi => ?_
  split
  · exact .refl s
  · next hw =>
    refine .ite (fun _ => .refl s) fun _ => ?_
    exact .writeValue v (.inr (.inr ⟨not_isSystemSlot hi, r, hr, hl rfl, (State.writeRefusal_none hw).2.1⟩))

theorem Moves.raise (s : State) (p : Port) (h : Handle) (n : Byte) : Moves s (s.raise p h n).state := by
  refine .withHandle fun i r hr hl => .ite (fun _ => .refl s) fun hi => .ite (fun _ => .refl s) fun _ => ?_
  split
  · exact .refl s
  · next hw =>
    exact (Move.change _ _ (.inr (.inr ⟨not_isSystemSlot hi, r, hr, hl rfl, (State.writeRefusal_none hw).2.1⟩))).moves

theorem Moves.createSub {s : State} {i : SlotNo} (h : s.isDraining i = false) (p : Port) (new : Sub) :
    Moves s (s.createSub i p new) :=
  (Moves.updSub h p _).trans (.heldEvaluation (by rw [State.updSub_isDraining]; exact h) p)

theorem Moves.subscribe (s : State) (p : Port) (h : Handle) (prio cond m mode cls attrs : Byte) :
    Moves s (s.subscribe p h prio cond m mode cls attrs).state := by
  refine .withHandle fun i r hr hl => ?_
  have hd := isDraining_of_live hr (hl rfl)
  split
  · exact .refl s
  · next new _ =>
    split
    · next old _ =>
      split
      · exact .refl s
      · dsimp only [State.replaceSub]
        split
        · exact (Moves.createSub hd p new).trans (.departOn _ i p)
        · exact .createSub hd p new
    · split
      · exact .refl s
      · exact .createSub hd p new

theorem Moves.unsubscribe (s : State) (p : Port) (h : Handle) : Moves s (s.unsubscribe p h).state := by
  refine .withHandle fun i r hr hl => ?_
  have hd := isDraining_of_live hr (hl rfl)
  split
  · exact .refl s
  · split
    · exact .refl s
    · dsimp only [State.unsubscribeSub]
      split
      · exact (Moves.updSub hd p _).trans (.departOn _ i p)
      · exact .updSub hd p _

theorem Stands.startDeadline (s : State) (p : Port) (k : Prio) (i : SlotNo) (token : Byte) (c : DeadlineClass) :
    Stands s (s.startDeadline p k i token c) := by
  unfold State.startDeadline
  split
  · exact .refl s
  · exact .modDeadline s p k _

theorem Moves.takeIntoService (s : State) (p : Port) (i : SlotNo) (u : Sub) (token : Byte) :
    Moves s (s.takeIntoService p i u token) := by
  have h1 := (Stands.modService s p (fun v => { v with rotation := v.rotation.set u.priority i }) fun _ h => h).moves
  have h2 := h1.tail (.unmark i p)
  refine h2.trans (Stands.moves (.trans (.modService _ p _ fun j hj => ?_) (.trans (.startDeadline _ p _ i token _) (.owe _ p))))
  rw [List.any_append, hj, Bool.true_or]

theorem Moves.acquire (s : State) (p : Port) : Moves s (s.acquire p).state := by
  unfold State.acquire
  split
  · exact .refl s
  · split
    · exact .refl s
    · split
      · exact .refl s
      · split
        · exact .refl s
        · exact .takeIntoService s p _ _ _

/-- The ending of an entry: the entry goes with its OVERDUE mark, a DRAINING record loses the subscription, a HELD one is
evaluated again, and a GUARD one departs (R72). -/
theorem Moves.endEntry (s : State) (p : Port) (e : Entry) : Moves s (s.endEntry p e) := by
  have h1 := (Stands.cancelFor s p e.slot).moves
  have hleft : (s.cancelFor p e.slot).EntryLeft p e.slot (((s.cancelFor p e.slot).removeEntry p e.slot).overdueBack p e) := by
    unfold State.overdueBack
    split
    · exact .inr ⟨_, rfl⟩
    · exact .inl rfl
  have h2 := h1.tail (.leave p e.slot hleft)
  have h3 : Moves s ((((s.cancelFor p e.slot).removeEntry p e.slot).overdueBack p e).releaseSub e.slot p) := by
    unfold State.releaseSub
    split
    · next hd => rw [if_pos hd] at h2; exact h2
    · next hd =>
      rw [if_neg hd] at h2
      exact h2.trans (.heldEvaluation (by simpa using hd) p)
  have h4 : ∀ (t : State) (guard : Bool), Moves t (t.acknowledge e.slot p guard) := by
    intro t guard
    unfold State.acknowledge
    split
    · exact .departOn t e.slot p
    · exact .refl t
  exact (h3.trans (h4 _ _)).trans (Stands.owe _ p).moves

theorem Moves.release (s : State) (p : Port) (h : Handle) : Moves s (s.release p h).state := by
  refine .withHandle fun i r hr hl => ?_
  split
  · exact .refl s
  · exact .endEntry s p _

theorem Moves.releaseTop (s : State) (p : Port) : Moves s (s.releaseTop p).state := by
  unfold State.releaseTop
  split
  · exact .refl s
  · exact .endEntry s p _

theorem Moves.setThreshold (s : State) (p : Port) (t : Byte) : Moves s (s.setThreshold p t).state := by
  unfold State.setThreshold
  split
  · exact (Stands.trans (.modService s p _ fun _ h => h) (.owe _ p)).moves
  · exact .refl s

theorem Moves.resetNow (s : State) (d : Dom) : Moves s (s.resetNow d).state := by
  unfold State.resetNow
  dsimp only
  exact Moves.trans (.sweep s d) (.enterHeld _ d)

theorem Stands.startWarningTimer (s : State) (d : Dom) (serial timeout : Byte) :
    Stands s (s.startWarningTimer d serial timeout) := by
  unfold State.startWarningTimer
  split
  · exact .refl s
  · exact .modWarning s d _

theorem Moves.startWarning (s : State) (d : Dom) (timeout : Byte) : Moves s (s.startWarning d timeout) :=
  (Move.domain d fun x =>
      { state := .warning, awaited := s.guardPorts d, serial := s.domains[d].serial + 1#8, timeout := timeout }).moves.trans
    (Stands.startWarningTimer _ d _ timeout).moves

theorem Moves.resetDomain (s : State) (d : Dom) (mode : ResetMode) (timeout : Byte) :
    Moves s (s.resetDomain d mode timeout).state := by
  unfold State.resetDomain
  split
  · split
    · exact .startWarning s d timeout
    · exact .resetNow s d
  · exact .resetNow s d
  · exact .refl s
  · dsimp only
    exact .endWarning s d
  · exact .refl s

theorem Moves.domainReset (s : State) (p : Port) (dom mode timeout : Byte) :
    Moves s (s.domainReset p dom mode timeout).state := by
  refine .controlOnly ?_
  split
  · exact .resetDomain s _ _ timeout
  · exact .refl s

theorem Moves.cancelWarning (s : State) (d : Dom) : Moves s (s.cancelWarning d) :=
  (Stands.cancelWarningTimer s d).moves.tail
    (.domain d fun x => { x with state := .run, awaited := Vector.replicate 6 false, timeout := 0#8 })

/-- What the re-application gives a slot is its INPUT pin's level (R106). -/
theorem State.reapplied_some {s : State} {d : Dom} {i : SlotNo} {v : Byte} (h : s.reapplied d i = some v) :
    ∃ r g, s.slots[i].record = some r ∧ r.state = .live ∧ r.domain = some d ∧ s.boundPin i = some g
      ∧ s.pins[g].applied = some (i, v) := by
  unfold State.reapplied at h
  split at h
  · cases h
  · next r hr =>
    split at h
    · next hc =>
      split at h
      · cases h
      · next g hg =>
        obtain ⟨⟨j, w⟩, ha, rfl⟩ := Option.map_eq_some_iff.mp h
        obtain ⟨b, -, -, hb, -, -, hs, -⟩ := PinState.applied_some ha
        obtain ⟨b', hb', hs'⟩ := State.boundPin_some s hg
        rw [hb, Option.some.injEq] at hb'
        have hj : j = i := by rw [← hs, hb', hs']
        exact ⟨r, g, hr, hc.1, hc.2, hg, hj ▸ ha⟩
    · cases h

theorem Moves.reapply (s : State) (d : Dom) : Moves s (s.reapply d).1 := by
  refine Moves.foldl_counted (fun acc i hi => ?_) (s, 0)
  unfold State.reapplySlot
  split
  · exact .refl _
  · next v hv =>
    split
    · exact .refl _
    · obtain ⟨-, g, -, -, -, -, ha⟩ := State.reapplied_some hv
      exact (Move.change v 0 (.of_applied ha)).moves

theorem Moves.releaseHeld (s : State) (d : Dom) : Moves s (s.releaseHeld d).1 :=
  (Move.domain d fun x => { x with state := .run }).moves.trans (.reapply _ d)

theorem Moves.domainRelease (s : State) (p : Port) (dom : Byte) : Moves s (s.domainRelease p dom).state := by
  refine .controlOnly ?_
  split
  · exact .refl s
  · next d _ =>
    unfold State.releaseDomain
    split
    · exact .refl s
    · exact .cancelWarning s d
    · dsimp only
      exact .releaseHeld s d

/-- A binding that nothing refuses is of a pin and a record both unbound, and for INPUT of an unlocked record. -/
theorem State.bindRefusal_none {s : State} {p : Port} {g : Pin} {i : SlotNo} {r : Record} {dir : Direction}
    (h : s.bindRefusal p g i r dir = none) :
    s.pins[g].binding = none ∧ s.boundPin i = none ∧ (dir ≠ .output → r.locked = false) := by
  unfold State.bindRefusal at h
  split at h
  · cases h
  · next hg =>
    split at h
    · cases h
    · next hb =>
      refine ⟨by simpa using hg, by simpa using hb, fun hd => ?_⟩
      split at h
      · exact absurd rfl hd
      · split at h
        · cases h
        · next hk => simpa using hk

theorem Moves.bindInput {s : State} {g : Pin} {i : SlotNo} {r : Record} (f : Fin 16) (a : Level) (found : Option Level)
    (hi : 20 ≤ i.val) (hr : s.slots[i].record = some r) (hl : r.state = .live) (hv : r.kind = .level)
    (hk : r.locked = false) (hg : s.pins[g].binding = none) (hb : s.boundPin i = none) :
    Moves s (s.bindInput g i f a found) := by
  have h1 := (Move.bindInput f a (foundLevel s.samples g found .highZ) hi hr hl hv hk hg hb).moves
  have h2 := h1.trans (Stands.of_eq (s := s.inputBinding g i f a (foundLevel s.samples g found .highZ)) (t := { s.inputBinding g i f a (foundLevel s.samples g found .highZ) with
    samples := s.samples + 1 }) rfl rfl rfl rfl rfl rfl rfl).moves
  unfold State.bindInput
  dsimp only
  split
  · exact h2
  · refine h2.trans (.setValue _ (.inr (.inl ⟨g, (inputBoundTo_iff _ _).mpr
      ⟨{ slot := i, dir := .input f, active := a, serial := s.pins[g].serialCounter + 1#8 }, ?_, rfl, by simp⟩⟩)))
    show (s.inputBinding g i f a (foundLevel s.samples g found .highZ)).pins[g].binding = _
    rw [State.inputBinding_pin, if_pos rfl]
    rfl

theorem Moves.bindPin (s : State) (p : Port) (found : Option Level) (pin : Byte) (h : Handle) (dir active filter : Byte) :
    Moves s (s.bindPin p found pin h dir active filter).state := by
  refine .controlOnly (.withHandle fun i r hr hl => ?_)
  dsimp only
  split
  · exact .refl s
  · next hi =>
    have hi := not_isSystemSlot hi
    split
    · next g d a _ _ _ hkind =>
      split
      · exact .refl s
      · next hn =>
        obtain ⟨hg, hb, hk⟩ := State.bindRefusal_none hn
        cases d with
        | input f => exact .bindInput f a found hi hr (hl rfl) hkind (hk (by simp)) hg hb
        | output => exact (Move.bindOutput a r.value hi hr (hl rfl) hkind hg hb).moves
    · exact .refl s

theorem Moves.unbindPin (s : State) (p : Port) (pin : Byte) : Moves s (s.unbindPin p pin).state := by
  refine .controlOnly ?_
  split
  · exact .refl s
  · split
    · exact .refl s
    · next b hb => exact (Move.unbind hb).moves

theorem Moves.pinQuery (s : State) (pin : Byte) : Moves s (s.pinQuery pin).state := by
  unfold State.pinQuery
  split <;> exact .refl s

theorem Moves.evict (s : State) (p : Port) (port : Byte) : Moves s (s.evict p port).state := by
  refine .controlOnly ?_
  split
  · exact .refl s
  · split
    · exact .refl s
    · split
      · exact .refl s
      · exact (Stands.modPort s _ (fun x => { x with inEvict := true }) ⟨rfl, rfl⟩).moves

end Sys2Proof.Machine
end

section
/-! What one step does, and the invariants every step keeps (R3, R5, R8, R18, R23, R93, R109, R110). -/

namespace Sys2Proof.Machine

open Sys2Proof

/-! ## One step -/

/-- What a row does: a reset; nothing the directory's invariants look at; a run of moves; or a declaration, with nothing
before and after it that they look at. The engine takes something only with RST# high. -/
inductive StepCase (s t : State) : Prop where
  | cold (h : t = s.cold)
  | released (levels : Pin → Level) (hr : s.rstLow = true) (h : t = s.released levels)
  | stands (h : Stands s t)
  | moves (hr : s.rstLow = false) (h : Moves s t)
  | declares (hr : s.rstLow = false) {u v : State} {i : SlotNo} {r : Record} (h : Stands s u) (hd : Declares u v i r)
      (k : Stands v t)

theorem rstLow_of_choice {s : State} {r : Taking} (h : s.choice = some r) : s.rstLow = false :=
  (State.quiet_spec s (State.choice_quiet s h)).1

/-- A request taken is a run of moves where its own part is. -/
theorem StepCase.internal {s : State} {pick : Taking → Option (State → State)}
    (h : ∀ r act, pick r = some act → ∀ t, Moves t (act t)) : StepCase s (s.takeInternal pick) := by
  unfold State.takeInternal
  split
  · exact .stands (.refl s)
  · next r hc =>
    split
    · exact .stands (.refl s)
    · next act ha =>
      exact .moves (rstLow_of_choice hc)
        (((Stands.taken s r).moves.trans (h r act ha _)).trans (Stands.sendIndications _).moves)

/-- The command a row names is taken, or nothing happens. -/
theorem State.takeCommand_cases (s : State) (p : Port) (act : Command → Option (State → Done)) :
    s.takeCommand p act = s
      ∨ ∃ q f a, s.choice = some (.command p q) ∧ act q.command = some f
          ∧ s.takeCommand p act = ((f (s.serving p q)).state.sendAnswer p a).sendIndications := by
  unfold State.takeCommand
  split
  · next p' q hc =>
    split
    · next hp =>
      subst hp
      split
      · exact .inl rfl
      · next f hf => exact .inr ⟨q, f, _, hc, hf, rfl⟩
    · exact .inl rfl
  · exact .inl rfl
  · exact .inl rfl

/-- A command taken is a run of moves where its own part is. -/
theorem StepCase.command {s : State} {p : Port} {act : Command → Option (State → Done)}
    (h : ∀ c f, act c = some f → ∀ t, Moves t (f t).state) : StepCase s (s.takeCommand p act) := by
  rcases s.takeCommand_cases p act with he | ⟨q, f, a, hc, hf, he⟩
  · rw [he]; exact .stands (.refl s)
  · rw [he]
    exact .moves (rstLow_of_choice hc) (((Stands.serving s p q).moves.trans (h _ f hf _)).trans
      ((Stands.sendAnswer _ p a).trans (.sendIndications _)).moves)

/-- A DECLARE changes nothing, or places one record. -/
theorem State.declare_cases (s : State) (p : Port) (id : Half) (kind init dflt dom policy : Byte) :
    (s.declare p id kind init dflt dom policy).state = s
      ∨ ∃ i r, Declares s (s.declare p id kind init dflt dom policy).state i r := by
  unfold State.declare
  split
  · exact .inl rfl
  · split
    · next k d o _ _ _ =>
      split
      · exact .inl rfl
      · next hid =>
        split
        · exact .inl rfl
        · split
          · exact .inl rfl
          · next i hi =>
            refine .inr ⟨i, declaredRecord p id k init dflt d o, ?_, ?_, ?_, rfl, trivial, rfl⟩
            · exact mem_userSlots.mp (List.mem_of_find?_eq_some hi)
            · simpa only [State.isFree, Option.isNone_iff_eq_none] using List.find?_some hi
            · exact Option.not_isSome_iff_eq_none.mp hid
    · exact .inl rfl

theorem StepCase.declare (s : State) (p : Port) : ∃ t, execDeclare p s = .next t ∧ StepCase s t := by
  refine ⟨_, rfl, ?_⟩
  rcases s.takeCommand_cases p _ with he | ⟨q, f, a, hc, hf, he⟩
  · rw [he]; exact .stands (.refl s)
  · rw [he]
    have hsend := fun t : State => (Stands.sendAnswer t p a).trans (.sendIndications _)
    split at hf
    · cases hf
      rcases State.declare_cases (s.serving p q) p _ _ _ _ _ _ with hs | ⟨i, r, hd⟩
      · rw [hs]; exact .stands ((Stands.serving s p q).trans (hsend _))
      · exact .declares (rstLow_of_choice hc) (Stands.serving s p q) hd (hsend _)
    · cases hf

/-- A frame alters no strap, whatever its outcome. -/
theorem StepCase.frame {s : State} {p : Port} {f : PortState → PortState}
    (hf : ∀ q : PortState, (f q).enabled = q.enabled ∧ (f q).cls = q.cls) : StepCase s (s.takeFrame p f) := by
  unfold State.takeFrame
  split
  · exact .stands (.modPort s p f (hf _))
  · exact .stands (.refl s)

theorem PortState.hello_straps (body : List Byte) (q : PortState) :
    (q.hello body).enabled = q.enabled ∧ (q.hello body).cls = q.cls := by
  unfold PortState.hello
  dsimp only
  split
  · exact ⟨rfl, rfl⟩
  · split <;> exact ⟨rfl, rfl⟩

theorem PortState.submitFrame_straps (body : List Byte) (q : PortState) :
    (q.submitFrame body).enabled = q.enabled ∧ (q.submitFrame body).cls = q.cls := by
  unfold PortState.submitFrame
  dsimp only
  split
  · exact ⟨rfl, rfl⟩
  · exact ⟨rfl, rfl⟩
  · exact ⟨rfl, rfl⟩
  · exact ⟨rfl, rfl⟩
  · split
    · exact ⟨rfl, rfl⟩
    · split <;> exact ⟨rfl, rfl⟩

theorem PortState.deliver_straps (q : PortState) (n : BitVec 4) :
    (q.deliver n).enabled = q.enabled ∧ (q.deliver n).cls = q.cls := by
  unfold PortState.deliver
  split <;> exact ⟨rfl, rfl⟩

theorem PortState.deliverNew_straps (q : PortState) : q.deliverNew.enabled = q.enabled ∧ q.deliverNew.cls = q.cls := by
  unfold PortState.deliverNew
  split
  · exact q.deliver_straps _
  · exact PortState.deliver_straps { q with nextSeq := q.nextSeq + 1 } _

theorem PortState.pull_straps (body : List Byte) (q : PortState) :
    (q.pull body).enabled = q.enabled ∧ (q.pull body).cls = q.cls := by
  unfold PortState.pull
  dsimp only
  split
  · exact ⟨rfl, rfl⟩
  · split
    · exact ⟨rfl, rfl⟩
    · exact ⟨rfl, rfl⟩
    · exact ⟨rfl, rfl⟩
    · exact ⟨rfl, rfl⟩
    · unfold PortState.pullOpen
      split
      · exact PortState.deliverNew_straps q.goodFrame
      · exact PortState.deliverNew_straps q.goodFrame
      · next rest seq _ _ =>
        split
        · exact PortState.deliverNew_straps { q.goodFrame with answers := rest, outstanding := none }
        · exact PortState.deliver_straps q.goodFrame seq

theorem PortState.resetLink_straps (body : List Byte) (q : PortState) :
    (q.resetLink body).enabled = q.enabled ∧ (q.resetLink body).cls = q.cls := by
  unfold PortState.resetLink
  dsimp only
  split
  · exact ⟨rfl, rfl⟩
  · split <;> exact ⟨rfl, rfl⟩

theorem PortState.peek_straps (body : List Byte) (q : PortState) :
    (q.peek body).enabled = q.enabled ∧ (q.peek body).cls = q.cls := by
  unfold PortState.peek
  split <;> exact ⟨rfl, rfl⟩

theorem PortState.badFrame_straps (form : BadForm) (q : PortState) :
    (q.badFrame form).enabled = q.enabled ∧ (q.badFrame form).cls = q.cls := by
  have hfault : ∀ x : PortState, x.faultReached.enabled = x.enabled ∧ x.faultReached.cls = x.cls := by
    intro x
    unfold PortState.faultReached
    split <;> exact ⟨rfl, rfl⟩
  have hcount : (if q.badCount = 4 then q else { q with badCount := q.badCount + 1 }).enabled = q.enabled
      ∧ (if q.badCount = 4 then q else { q with badCount := q.badCount + 1 }).cls = q.cls := by
    split <;> exact ⟨rfl, rfl⟩
  have hboth : (if q.badCount = 3 then (if q.badCount = 4 then q else { q with badCount := q.badCount + 1 }).faultReached
        else if q.badCount = 4 then q else { q with badCount := q.badCount + 1 }).enabled = q.enabled
      ∧ (if q.badCount = 3 then (if q.badCount = 4 then q else { q with badCount := q.badCount + 1 }).faultReached
        else if q.badCount = 4 then q else { q with badCount := q.badCount + 1 }).cls = q.cls := by
    by_cases h : q.badCount = 3
    · simp only [if_pos h]
      exact ⟨(hfault _).1.trans hcount.1, (hfault _).2.trans hcount.2⟩
    · simp only [if_neg h]
      exact hcount
  unfold PortState.badFrame
  cases form <;> exact hboth

theorem StepCase.delivery {s : State} {p : Port} {f : PortState → PortState}
    (hf : ∀ q : PortState, (f q).enabled = q.enabled ∧ (f q).cls = q.cls) : StepCase s (s.modPort p f) :=
  .stands (.modPort s p f (hf _))

theorem PortState.answerArrives_straps (q : PortState) :
    q.answerArrives.enabled = q.enabled ∧ q.answerArrives.cls = q.cls := by
  unfold PortState.answerArrives
  split
  · exact ⟨rfl, rfl⟩
  · split <;> exact ⟨rfl, rfl⟩

theorem PortState.indicationArrives_straps (q : PortState) :
    q.indicationArrives.enabled = q.enabled ∧ q.indicationArrives.cls = q.cls := by
  unfold PortState.indicationArrives
  split <;> exact ⟨rfl, rfl⟩

theorem PortState.evictArrives_straps (q : PortState) :
    q.evictArrives.enabled = q.enabled ∧ q.evictArrives.cls = q.cls := by
  unfold PortState.evictArrives
  split
  · split <;> exact ⟨rfl, rfl⟩
  · exact ⟨rfl, rfl⟩

theorem PortState.completionArrives_straps (q : PortState) :
    q.completionArrives.enabled = q.enabled ∧ q.completionArrives.cls = q.cls := by
  unfold PortState.completionArrives
  split
  · split <;> exact ⟨rfl, rfl⟩
  · exact ⟨rfl, rfl⟩

theorem PinState.accepts_wire (x : PinState) : SameWire x x.accepts := by
  unfold PinState.accepts
  split
  · next b f hb hf =>
    split
    · exact ⟨rfl, by rw [hf]; rfl, rfl⟩
    · exact .refl x
  · exact .refl x

theorem Moves.noticed (s : State) (p : Port) (v : NoticeValue) : Moves s (s.setValue (linkSlot p) (noticeByte v)) :=
  .setValue (noticeByte v) (.inl (Nat.lt_of_lt_of_le p.isLt (by decide)))

/-- What any row does. -/
theorem exec_cases (c : Instr) (s : State) : ∃ t, exec c s = .next t ∧ StepCase s t := by
  cases c with
  | coldReset => exact ⟨_, rfl, .cold rfl⟩
  | resetRelease board =>
    refine ⟨_, rfl, ?_⟩
    split
    · next hr => exact .released _ hr rfl
    · exact .stands (.refl s)
  | tick board =>
    refine ⟨_, rfl, ?_⟩
    split
    · exact .stands ((Stands.engaged s).trans (.ticked _ board))
    · exact .stands (.refl s)
  | filterAccept g => exact ⟨_, rfl, .stands (.modPin s g _ (PinState.accepts_wire _))⟩
  | deadlineTimerRunOut p k => exact ⟨_, rfl, .stands (.modDeadline s p k _)⟩
  | warningTimerRunOut d => exact ⟨_, rfl, .stands (.modWarning s d _)⟩
  | hello p body => exact ⟨_, rfl, .frame (PortState.hello_straps body)⟩
  | submit p body => exact ⟨_, rfl, .frame (PortState.submitFrame_straps body)⟩
  | pull p body => exact ⟨_, rfl, .frame (PortState.pull_straps body)⟩
  | resetLink p body => exact ⟨_, rfl, .frame (PortState.resetLink_straps body)⟩
  | peek p body => exact ⟨_, rfl, .frame (PortState.peek_straps body)⟩
  | badFrame p form => exact ⟨_, rfl, .frame (PortState.badFrame_straps form)⟩
  | unknownKindFrame p kind body => exact ⟨_, rfl, .frame fun _ => ⟨rfl, rfl⟩⟩
  | answerArrival p => exact ⟨_, rfl, .delivery PortState.answerArrives_straps⟩
  | eligibleIndication p => exact ⟨_, rfl, .delivery PortState.indicationArrives_straps⟩
  | evictRequest p => exact ⟨_, rfl, .delivery PortState.evictArrives_straps⟩
  | teardownCompletion p => exact ⟨_, rfl, .delivery PortState.completionArrives_straps⟩
  | teardownRequest p =>
    refine ⟨_, rfl, .internal fun r act h t => ?_⟩
    split at h
    · split at h
      · rw [← Option.some.inj h]; exact .teardown t p
      · cases h
    · cases h
  | linkNotice p =>
    refine ⟨_, rfl, .internal fun r act h t => ?_⟩
    split at h
    · split at h
      · cases h; exact .noticed t p _
      · cases h
    · cases h
  | deadlineExpiryRequest p k =>
    refine ⟨_, rfl, .internal fun r act h t => ?_⟩
    split at h
    · split at h
      · cases h; exact .expire t p _
      · cases h
    · cases h
  | warningExpiryRequest d =>
    refine ⟨_, rfl, .internal fun r act h t => ?_⟩
    split at h
    · split at h
      · cases h; exact .warningExpires t d _
      · cases h
    · cases h
  | pinUpdateRequest g =>
    refine ⟨_, rfl, .internal fun r act h t => ?_⟩
    split at h
    · split at h
      · cases h; exact .pinUpdates t g _
      · cases h
    · cases h
  | declare p => exact StepCase.declare s p
  | retire p =>
    refine ⟨_, rfl, .command fun c f h t => ?_⟩
    split at h
    · cases h; exact .retireCommand t p _
    · cases h
  | claim p =>
    refine ⟨_, rfl, .command fun c f h t => ?_⟩
    split at h
    · cases h; exact .claim t p _
    · cases h
  | lookup p =>
    refine ⟨_, rfl, .command fun c f h t => ?_⟩
    split at h
    · cases h; exact .lookup t _
    · cases h
  | lock p =>
    refine ⟨_, rfl, .command fun c f h t => ?_⟩
    split at h
    · cases h; exact .lockCommand t p _
    · cases h
  | set p =>
    refine ⟨_, rfl, .command fun c f h t => ?_⟩
    split at h
    · cases h; exact .set t p _ _
    · cases h
  | setIf p =>
    refine ⟨_, rfl, .command fun c f h t => ?_⟩
    split at h
    · cases h; exact .setIf t p _ _ _
    · cases h
  | raise p =>
    refine ⟨_, rfl, .command fun c f h t => ?_⟩
    split at h
    · cases h; exact .raise t p _ _
    · cases h
  | read p =>
    refine ⟨_, rfl, .command fun c f h t => ?_⟩
    split at h
    · cases h; exact .withHandle fun _ _ _ _ => .refl t
    · cases h
  | readGroup p =>
    refine ⟨_, rfl, .command fun c f h t => ?_⟩
    split at h
    · cases h; exact .ite (fun _ => .refl t) fun _ => .refl t
    · cases h
  | subscribe p =>
    refine ⟨_, rfl, .command fun c f h t => ?_⟩
    split at h
    · cases h; exact .subscribe t p _ _ _ _ _ _ _
    · cases h
  | unsubscribe p =>
    refine ⟨_, rfl, .command fun c f h t => ?_⟩
    split at h
    · cases h; exact .unsubscribe t p _
    · cases h
  | acquire p =>
    refine ⟨_, rfl, .command fun c f h t => ?_⟩
    split at h
    · cases h; exact .acquire t p
    · cases h
  | release p =>
    refine ⟨_, rfl, .command fun c f h t => ?_⟩
    split at h
    · cases h; exact .release t p _
    · cases h
  | releaseTop p =>
    refine ⟨_, rfl, .command fun c f h t => ?_⟩
    split at h
    · cases h; exact .releaseTop t p
    · cases h
  | threshold p =>
    refine ⟨_, rfl, .command fun c f h t => ?_⟩
    split at h
    · cases h; exact .setThreshold t p _
    · cases h
  | serviceList p =>
    refine ⟨_, rfl, .command fun c f h t => ?_⟩
    split at h
    · cases h; exact .refl t
    · cases h
  | domainReset p =>
    refine ⟨_, rfl, .command fun c f h t => ?_⟩
    split at h
    · cases h; exact .domainReset t p _ _ _
    · cases h
  | domainRelease p =>
    refine ⟨_, rfl, .command fun c f h t => ?_⟩
    split at h
    · cases h; exact .domainRelease t p _
    · cases h
  | bindPin p found =>
    refine ⟨_, rfl, .command fun c f h t => ?_⟩
    split at h
    · cases h; exact .bindPin t p found _ _ _ _ _
    · cases h
  | unbindPin p =>
    refine ⟨_, rfl, .command fun c f h t => ?_⟩
    split at h
    · cases h; exact .unbindPin t p _
    · cases h
  | pinQuery p =>
    refine ⟨_, rfl, .command fun c f h t => ?_⟩
    split at h
    · cases h; exact .pinQuery t _
    · cases h
  | evict p =>
    refine ⟨_, rfl, .command fun c f h t => ?_⟩
    split at h
    · cases h; exact .evict t p _
    · cases h
  | refclkRisingEdge =>
    refine ⟨_, rfl, ?_⟩
    split
    · exact .stands (.of_eq rfl rfl rfl rfl rfl rfl rfl)
    · exact .stands (.refl s)

/-- What one step of the part does; the queue of waiting steps is not looked at. -/
theorem step_cases {s t : State} (h : step s = .next t) : ∃ rest, StepCase { s with pending := rest } t := by
  unfold step at h
  split at h
  · cases h
    exact ⟨s.pending, .stands (.of_eq rfl rfl rfl rfl rfl rfl rfl)⟩
  · next c rest _ =>
    obtain ⟨t', ht, hc⟩ := exec_cases c { s with pending := rest }
    rw [h] at ht
    cases ht
    exact ⟨rest, hc⟩

end Sys2Proof.Machine
end

section
/-! The directory in cold reset and right after reset release (R7, R8, R11), and the invariants every step keeps. -/

namespace Sys2Proof.Machine

open Sys2Proof

/-! ## Cold reset and reset release -/

theorem State.cold_slot (s : State) (i : SlotNo) : s.cold.slots[i] = Slot.cold := replicate_get _ i
theorem State.cold_pin (s : State) (g : Pin) : s.cold.pins[g] = PinState.cold := replicate_get _ g
theorem State.cold_port (s : State) (p : Port) : s.cold.ports[p] = PortState.cold := replicate_get _ p
theorem State.cold_domain (s : State) (d : Dom) : s.cold.domains[d] = DomainEntry.cold := replicate_get _ d
theorem State.cold_service (s : State) (p : Port) : s.cold.services[p] = Service.cold := replicate_get _ p
theorem State.cold_deadline (s : State) (p : Port) (k : Prio) : s.cold.deadlines[p][k] = DeadlineUnit.cold := by
  simp [State.cold, State.reset]
theorem State.cold_warning (s : State) (d : Dom) : s.cold.warnings[d] = WarningUnit.cold := replicate_get _ d

section released
variable (s : State) (levels : Pin → Level)

theorem State.released_slot (i : SlotNo) : (s.released levels).slots[i] = releasedSlot (strapEnabled levels) i :=
  ofFn_get _ i
theorem State.released_pin (g : Pin) : (s.released levels).pins[g] = { PinState.cold with raw := levels g } := ofFn_get _ g
theorem State.released_port (p : Port) : (s.released levels).ports[p] = releasedPort levels p := ofFn_get _ p
theorem State.released_domain (d : Dom) : (s.released levels).domains[d] = DomainEntry.cold := replicate_get _ d

theorem releasedSlot_system (enabled : Port → Bool) {i : SlotNo} {id : Half} (h : systemId i = some id) :
    releasedSlot enabled i = { gen := 1#8, record := some (systemRecord id (systemValue enabled i)) } := by
  simp only [releasedSlot, h]

theorem releasedSlot_user (enabled : Port → Bool) {i : SlotNo} (h : 20 ≤ i.val) : releasedSlot enabled i = Slot.cold := by
  have hn : systemId i = none := by
    rw [← Option.not_isSome_iff_eq_none, systemId_isSome]
    omega
  simp only [releasedSlot, hn]

/-- Right after reset release a slot that holds a record holds a system record. -/
theorem released_record {i : SlotNo} {r : Record} (h : (s.released levels).slots[i].record = some r) :
    ∃ id, systemId i = some id ∧ r = systemRecord id (systemValue (strapEnabled levels) i) := by
  rw [State.released_slot] at h
  cases hid : systemId i with
  | none => simp only [releasedSlot, hid, Slot.cold, reduceCtorEq] at h
  | some id =>
    rw [releasedSlot_system _ hid, Option.some.injEq] at h
    exact ⟨id, rfl, h.symm⟩

/-- The id of each system record (Table 1-8) as a number. -/
theorem systemId_toNat {i : SlotNo} {id : Half} (h : systemId i = some id) :
    id.toNat = if i.val < 6 then 0xFF00 + i.val else if i.val < 12 then 0xFF10 + (i.val - 6) else 0xFF20 + (i.val - 12) := by
  unfold systemId at h
  split at h
  · next h1 =>
    cases h
    rw [if_pos h1, BitVec.toNat_add, BitVec.toNat_ofNat, BitVec.toNat_ofNat]
    omega
  · next h1 =>
    split at h
    · next h2 =>
      cases h
      rw [if_neg h1, if_pos h2, BitVec.toNat_add, BitVec.toNat_ofNat, BitVec.toNat_ofNat]
      omega
    · next h2 =>
      split at h
      · cases h
        rw [if_neg h1, if_neg h2, BitVec.toNat_add, BitVec.toNat_ofNat, BitVec.toNat_ofNat]
        omega
      · cases h

theorem systemId_lt {i j : SlotNo} {a b : Half} (hi : systemId i = some a) (hj : systemId j = some b) (h : i < j) :
    a.toNat < b.toNat := by
  have hlt : i.val < j.val := h
  have hj20 := lt_of_systemId (id := b) hj
  rw [systemId_toNat hi, systemId_toNat hj]
  split <;> split <;> (try split) <;> (try split) <;> omega

theorem mem_releasedIdMap {e : Half × SlotNo} : e ∈ releasedIdMap ↔ systemId e.2 = some e.1 := by
  simp only [releasedIdMap, List.mem_filterMap, List.mem_finRange, true_and, Option.map_eq_some_iff]
  constructor
  · rintro ⟨i, id, hid, rfl⟩
    exact hid
  · exact fun h => ⟨e.2, e.1, h, rfl⟩

theorem State.released_idAt (i : SlotNo) : (s.released levels).idAt i = systemId i := by
  unfold State.idAt
  rw [State.released_slot]
  cases hid : systemId i with
  | none => simp only [releasedSlot, hid, Slot.cold, Option.map_none]
  | some id => rw [releasedSlot_system _ hid]; rfl

theorem released_idMapExact : IdMapExact (s.released levels) := by
  refine ⟨?_, fun e he => ?_, fun i id hid => ?_⟩
  · show releasedIdMap.Pairwise _
    refine List.pairwise_filterMap.mpr ((List.pairwise_lt_finRange 128).imp fun {i j} hij a ha b hb => ?_)
    obtain ⟨x, hx, rfl⟩ := Option.map_eq_some_iff.mp ha
    obtain ⟨y, hy, rfl⟩ := Option.map_eq_some_iff.mp hb
    exact systemId_lt hx hy hij
  · rw [State.released_idAt]
    exact mem_releasedIdMap.mp he
  · rw [State.released_idAt] at hid
    exact mem_releasedIdMap.mpr hid

theorem released_systemsHold : SystemsHold (s.released levels) := by
  refine ⟨fun i id hid => ?_, fun g b hb => ?_, fun d => ?_⟩
  · rw [State.released_slot, releasedSlot_system _ hid]
    exact ⟨rfl, rfl, rfl, rfl, rfl, rfl, rfl, rfl, rfl⟩
  · rw [State.released_pin] at hb
    cases hb
  · obtain ⟨id, hid⟩ := systemId_some (i := domainSlot d) (by rw [domainSlot_val]; omega)
    have hv : systemValue (strapEnabled levels) (domainSlot d) = 0#8 := dif_neg (by rw [domainSlot_val]; omega)
    rw [State.valueAt, State.released_slot, releasedSlot_system _ hid, State.released_domain]
    exact hv

theorem released_bindingsStand : BindingsStand (s.released levels) := by
  have hp : ∀ g : Pin, (s.released levels).pins[g].binding = none := fun g => by rw [State.released_pin]; rfl
  refine ⟨fun g b hb => ?_, fun g h b hb => ?_, fun i r hr g ho => ?_, fun g => ?_⟩
  · rw [hp g] at hb; cases hb
  · rw [hp g] at hb; cases hb
  · obtain ⟨id, -, rfl⟩ := released_record s levels hr
    cases ho
  · rw [State.released_pin]
    exact ⟨rfl, rfl⟩

theorem released_drainingInService : DrainingInService (s.released levels) := by
  intro i r hr hd
  obtain ⟨id, -, rfl⟩ := released_record s levels hr
  cases hd

end released

theorem State.cold_record (s : State) (i : SlotNo) : s.cold.slots[i].record = none := by
  rw [State.cold_slot]; rfl

theorem cold_idMapExact (s : State) : IdMapExact s.cold := by
  refine ⟨List.Pairwise.nil, fun e he => absurd he List.not_mem_nil, fun i id hid => ?_⟩
  rw [State.idAt, State.cold_record] at hid
  cases hid

theorem cold_bindingsStand (s : State) : BindingsStand s.cold := by
  have hp : ∀ g : Pin, s.cold.pins[g].binding = none := fun g => by rw [State.cold_pin]; rfl
  refine ⟨fun g b hb => ?_, fun g h b hb => ?_, fun i r hr g ho => ?_, fun g => ?_⟩
  · rw [hp g] at hb; cases hb
  · rw [hp g] at hb; cases hb
  · rw [State.cold_record] at hr; cases hr
  · rw [State.cold_pin]
    exact ⟨rfl, rfl⟩

theorem cold_drainingInService (s : State) : DrainingInService s.cold := by
  intro i r hr
  rw [State.cold_record] at hr
  cases hr

/-! ## Declarations -/

section declares
variable {s t : State} {i : SlotNo} {r : Record}

theorem Declares.record (h : Declares s t i r) (j : SlotNo) :
    t.slots[j].record = if j = i then some r else s.slots[j].record := by
  rw [h.next, set_get]
  split <;> rfl

theorem Declares.gen (h : Declares s t i r) (j : SlotNo) :
    t.slots[j].gen = if j = i then nextGeneration s.slots[i].gen else s.slots[j].gen := by
  rw [h.next, set_get]
  split <;> rfl

theorem Declares.pins (h : Declares s t i r) : t.pins = s.pins := by rw [h.next]
theorem Declares.ports (h : Declares s t i r) : t.ports = s.ports := by rw [h.next]
theorem Declares.services (h : Declares s t i r) : t.services = s.services := by rw [h.next]
theorem Declares.rstLow (h : Declares s t i r) : t.rstLow = s.rstLow := by rw [h.next]

theorem Declares.systemsHold (h : Declares s t i r) (hs : SystemsHold s) : SystemsHold t := by
  refine hs.of_user (fun j hj => ?_) (fun g b hb => .inl ?_) (by rw [h.next])
  · rw [h.next, set_get, if_neg (ne_of_user h.user hj)]
  · rw [h.pins] at hb; exact hb

theorem Declares.bindingsStand (h : Declares s t i r) (hs : BindingsStand s) : BindingsStand t := by
  obtain ⟨h1, h2, h3, h4⟩ := hs
  unfold BindingsStand
  simp only [h.pins]
  refine ⟨fun g b hb => ?_, h2, fun j x hx g ho => ?_, h4⟩
  · have hold := h1 g b hb
    rw [h.record, if_neg]
    · exact hold
    · rintro rfl
      rw [h.free] at hold
      exact hold
  · rw [h.record] at hx
    split at hx
    · cases hx
      have := h.plain
      rw [ho] at this
      exact this.elim
    · exact h3 j x hx g ho

theorem Declares.drainingInService (h : Declares s t i r) (hs : DrainingInService s) : DrainingInService t := by
  refine hs.of_subs (fun j x hx hd => ?_) fun p j hp => by rw [State.inService, h.services]; exact hp
  rw [h.record] at hx
  split at hx
  · cases hx
    exact absurd (h.live.symm.trans hd) (by decide)
  · exact ⟨x, hx, hd, rfl⟩

theorem Declares.locked (h : Declares s t i r) : LockedRecordsKept s t := by
  refine .of_records fun j _ x hx _ _ => ?_
  have hj : j ≠ i := by
    rintro rfl
    rw [h.free] at hx
    cases hx
  rw [h.gen, h.record, if_neg hj, if_neg hj]
  exact ⟨rfl, x.subs, hx⟩

end declares

/-! ## The obligations on every step -/

/-- Settles O49: an id enters the map with the record a DECLARE places, and leaves it with the record a retirement or the
last departure frees. -/
theorem stepsKeepIdMapExact : Obligations.StepsKeepIdMapExact := by
  intro s t hs ht
  obtain ⟨rest, hc⟩ := step_cases ht
  have hs' : IdMapExact { s with pending := rest } := hs
  cases hc with
  | cold h => rw [h]; exact cold_idMapExact _
  | released levels _ h => rw [h]; exact released_idMapExact _ levels
  | stands h => exact (Move.stand h).idMapExact hs'
  | moves _ h => exact h.keep (fun _ _ => Move.idMapExact) hs'
  | declares _ h hd k => exact (Move.stand k).idMapExact (hd.idMapExact ((Move.stand h).idMapExact hs'))

/-- Settles O50: a row writes a system record by a change of its value, its version and its subscriptions alone, and a
domain's state together with its DOMAIN record. -/
theorem stepsKeepSystemRecords : Obligations.StepsKeepSystemRecords := by
  intro s t hs ht hr
  obtain ⟨rest, hc⟩ := step_cases ht
  cases hc with
  | cold h => rw [h] at hr; cases hr
  | released levels _ h => rw [h]; exact released_systemsHold _ levels
  | stands h => exact (Move.stand h).systemsHold (hs (h.rstLow.symm.trans hr))
  | moves hlow h => exact h.keep (fun _ _ => Move.systemsHold) (hs hlow)
  | declares hlow h hd k => exact (Move.stand k).systemsHold (hd.systemsHold ((Move.stand h).systemsHold (hs hlow)))

/-- Settles O55: every move of a row keeps bindings, owners and drivers in agreement. -/
theorem stepsKeepBindingsStand : Obligations.StepsKeepBindingsStand := by
  intro s t hs ht
  obtain ⟨rest, hc⟩ := step_cases ht
  have hs' : BindingsStand { s with pending := rest } := hs
  cases hc with
  | cold h => rw [h]; exact cold_bindingsStand _
  | released levels _ h => rw [h]; exact released_bindingsStand _ levels
  | stands h => exact (Move.stand h).bindingsStand hs'
  | moves _ h => exact h.keep (fun _ _ => Move.bindingsStand) hs'
  | declares _ h hd k => exact (Move.stand k).bindingsStand (hd.bindingsStand ((Move.stand h).bindingsStand hs'))

/-- Settles O57: system records are LIVE and bound records are LIVE, so that no row changes a DRAINING record; an entry that
leaves service takes the subscription with it. -/
theorem stepsKeepDrainingInService : Obligations.StepsKeepDrainingInService := by
  intro s t hs hb hd ht
  obtain ⟨rest, hc⟩ := step_cases ht
  have hd' : DrainingInService { s with pending := rest } := hd
  have hstand : ∀ {u v : State}, Stands u v → DrainingInService u → DrainingInService v := fun h hu =>
    hu.of_subs (fun i r hr hrd => ⟨r, by rw [← h.slots]; exact hr, hrd, rfl⟩) h.service
  cases hc with
  | cold h => rw [h]; exact cold_drainingInService _
  | released levels _ h => rw [h]; exact released_drainingInService _ levels
  | stands h => exact hstand h hd'
  | moves hlow h =>
    exact (h.keep (P := fun u => SystemsHold u ∧ BindingsStand u ∧ DrainingInService u)
      (fun _ _ m hp => ⟨m.systemsHold hp.1, m.bindingsStand hp.2.1, m.drainingInService hp.1 hp.2.1 hp.2.2⟩)
      ⟨hs hlow, hb, hd'⟩).2.2
  | declares _ h hdec k => exact hstand k (hdec.drainingInService (hstand h hd'))

/-- Settles O60: each move that writes more of a user record than its subscriptions asks first that the record is unlocked,
or INPUT-bound, which a locked one is not. -/
theorem lockedRecordsStandUntilColdReset : Obligations.LockedRecordsStandUntilColdReset := by
  intro s t hb hr ht hr'
  obtain ⟨rest, hc⟩ := step_cases ht
  have hb' : BindingsStand { s with pending := rest } := hb
  show LockedRecordsKept { s with pending := rest } t
  cases hc with
  | cold h => rw [h] at hr'; cases hr'
  | released levels hlow => exact absurd (hr.symm.trans hlow) (by decide)
  | stands h => exact (Move.stand h).locked hb'
  | moves _ h => exact h.locked hb'
  | declares _ h hd k =>
    have hbu := (Move.stand h).bindingsStand hb'
    exact (((Move.stand h).locked hb').trans hd.locked).trans ((Move.stand k).locked (hd.bindingsStand hbu))

/-- Settles O59: straps are written at reset release alone, and a generation by a DECLARE alone. -/
theorem strapsAndGenerationsStand : Obligations.StrapsAndGenerationsStand := by
  intro s t hr ht hr'
  obtain ⟨rest, hc⟩ := step_cases ht
  have hmoves : ∀ u, (∀ p, SameStraps s u p) → (∀ i : SlotNo, u.slots[i].gen = s.slots[i].gen) →
      (∀ p : Port, u.ports[p].enabled = s.ports[p].enabled ∧ u.ports[p].cls = s.ports[p].cls)
      ∧ ∀ i : SlotNo, u.slots[i].gen = s.slots[i].gen
        ∨ (20 ≤ i.val ∧ s.slots[i].record = none ∧ (u.slots[i].record).isSome = true
            ∧ u.slots[i].gen = if s.slots[i].gen = 255#8 then 1#8 else s.slots[i].gen + 1#8) :=
    fun u hp hg => ⟨hp, fun i => .inl (hg i)⟩
  cases hc with
  | cold h => rw [h] at hr'; cases hr'
  | released levels hlow => exact absurd (hr.symm.trans hlow) (by decide)
  | stands h => exact hmoves t h.straps h.steady.gen
  | moves _ h => exact hmoves t h.straps h.gen
  | @declares _ u v i r h hd k =>
    refine ⟨fun p => ?_, fun j => ?_⟩
    · have huv : SameStraps u v p := .of_ports hd.ports p
      exact (SameStraps.trans (h.straps p) huv).trans (k.straps p)
    · have hs : u.slots = s.slots := h.slots
      rw [k.slots, hd.gen, hd.record, hs]
      by_cases hj : j = i
      · subst hj
        rw [if_pos rfl, if_pos rfl]
        exact .inr ⟨hd.user, by rw [← hs]; exact hd.free, rfl, rfl⟩
      · rw [if_neg hj]
        exact .inl rfl

/-! ## Cold reset and reset release -/

/-- Settles O47: no slot holds a record, no pin is bound, and every list is empty. -/
theorem resetMeetsTheInvariants : Obligations.ResetMeetsTheInvariants := by
  have hrec : ∀ i : SlotNo, State.reset.slots[i].record = none := State.cold_record State.reset
  have hport : ∀ p : Port, State.reset.ports[p] = PortState.cold := State.cold_port State.reset
  have hserv : ∀ p : Port, State.reset.services[p] = Service.cold := State.cold_service State.reset
  have hdom : ∀ d : Dom, State.reset.domains[d] = DomainEntry.cold := State.cold_domain State.reset
  have hsub : ∀ (i : SlotNo) (p : Port), State.reset.subAt i p = none := fun i p => by
    simp only [State.subAt, hrec]
  refine ⟨fun p => ?_, cold_idMapExact State.reset, nofun, fun p => ?_, nofun, fun i _ r hr => ?_, fun d p ha => ?_,
    cold_bindingsStand State.reset, fun g b hb => ?_, cold_drainingInService State.reset, ?_, fun i p u hu => ?_⟩
  · rw [hport]
    exact ⟨Nat.zero_le 4, Nat.zero_le 8, fun _ => ⟨rfl, rfl⟩, nofun⟩
  · rw [hserv]
    exact ⟨nofun, List.Pairwise.nil⟩
  · rw [hrec] at hr; cases hr
  · rw [hdom, DomainEntry.cold] at ha
    rw [replicate_get] at ha
    cases ha
  · have hpin : State.reset.pins[g] = PinState.cold := State.cold_pin State.reset g
    rw [hpin] at hb
    cases hb
  · have hzero : State.reset.poolInUse = 0 := by simp [State.poolInUse, hsub]
    rw [PoolWithin, hzero]
    exact Nat.zero_le 192
  · rw [hsub] at hu; cases hu

/-- Settles O3: each item of the cold state, as the manual lists it. -/
theorem coldResetClearsThePart : Obligations.ColdResetClearsThePart := by
  intro s
  refine ⟨s.cold, rfl, rfl, rfl, rfl, rfl, rfl, ?_, s.cold_slot, s.cold_deadline, fun d => ⟨s.cold_warning d, s.cold_domain d⟩,
    s.cold_service, fun g => ?_, fun p => ?_⟩
  · cases hc : s.cold.choice with
    | none => rfl
    | some r => exact absurd (rstLow_of_choice hc) Bool.noConfusion
  · rw [s.cold_pin g]
    exact ⟨rfl, rfl, rfl, rfl, rfl⟩
  · have hattn : s.cold.attn p = false := by simp only [State.attn, s.cold_port p, PortState.cold]
    rw [s.cold_port p]
    exact ⟨rfl, rfl, rfl, rfl, rfl, rfl, rfl, rfl, rfl, rfl, rfl, rfl, nofun, hattn⟩

/-- A pin the board drives is found at that level at the release sample, where no driver drives (R110, R111). -/
theorem releaseLevel_driven (n : Nat) (board : Board) (g : Pin) {l : Level} (h : l ∈ board[g]) : releaseLevel n board g = l := by
  rw [Option.mem_def] at h
  rw [releaseLevel, h]
  rfl

theorem releasedPort_eq (levels : Pin → Level) (p : Port) :
    releasedPort levels p = { PortState.cold with
      enabled := decide (levels ⟨p.val, by omega⟩ = .high)
      cls := if levels ⟨p.val + 6, by omega⟩ = .high then .control else .member
      link := if levels ⟨p.val, by omega⟩ = .high then .closed else .off } := by
  unfold releasedPort strapClass strapEnabled
  simp only [decide_eq_true_eq]
  cases levels ⟨p.val + 6, by omega⟩ <;> rfl

/-- Settles O4: the released state, slot by slot as Table 1-8 arranges them, pin by pin and port by port. -/
theorem resetReleaseBuildsTheDirectory : Obligations.ResetReleaseBuildsTheDirectory := by
  intro s board hlow
  have hexec : exec (.resetRelease board) s = .next (s.released (releaseLevel s.samples board)) := by
    show execResetRelease board s = _
    rw [execResetRelease, if_pos hlow]
  generalize hl : releaseLevel s.samples board = levels at hexec
  have hpin := s.released_pin levels
  have hraw : ∀ (n : Nat) (h : n < 16), ((s.released levels).pins[n]).raw = levels ⟨n, h⟩ := fun n h => by
    have := hpin ⟨n, h⟩
    rw [Fin.getElem_fin] at this
    rw [this]
  have hslot : ∀ {i : SlotNo} {id : Half}, systemId i = some id → (s.released levels).slots[i]
      = { gen := 1#8, record := some (systemRecord id (systemValue (strapEnabled levels) i)) } := fun {i id} hid => by
    rw [State.released_slot, releasedSlot_system _ hid]
  refine ⟨_, hexec, rfl, fun g => ⟨?_, fun l hb => ?_⟩, fun p => ?_, fun p => ?_, fun p => ?_, fun d => ?_, fun i hi => ?_,
    released_idMapExact s levels⟩
  · rw [hpin g]
  · rw [hpin g, ← hl]
    exact releaseLevel_driven _ board g hb
  · rw [State.released_port, releasedPort_eq, hraw, hraw]
  · have hid : systemId (linkSlot p) = some (0xFF00#16 + BitVec.ofNat 16 p.val) := if_pos p.isLt
    have hv : systemValue (strapEnabled levels) (linkSlot p) = if ((s.released levels).pins[p.val]).raw = .high then 0#8 else 3#8 := by
      rw [hraw]
      refine (dif_pos (show (linkSlot p).val < 6 from p.isLt)).trans ?_
      simp only [strapEnabled, decide_eq_true_eq]
      rfl
    rw [hslot hid, hv]
    rfl
  · have hid : systemId (overdueSlot p) = some (0xFF10#16 + BitVec.ofNat 16 p.val) := by
      have h1 : ¬ 6 + p.val < 6 := by omega
      have h2 : 6 + p.val < 12 := by omega
      simp only [systemId, overdueSlot, h1, h2, if_false, if_true, Nat.add_sub_cancel_left]
    have hv : systemValue (strapEnabled levels) (overdueSlot p) = 0#8 := dif_neg (by simp only [overdueSlot]; omega)
    rw [hslot hid, hv]
    rfl
  · have hid : systemId (domainSlot d) = some (0xFF20#16 + BitVec.ofNat 16 d.val) := by
      have h1 : ¬ 12 + d.val < 6 := by omega
      have h2 : ¬ 12 + d.val < 12 := by omega
      have h3 : 12 + d.val < 20 := by omega
      simp only [systemId, domainSlot, h1, h2, h3, if_false, if_true, Nat.add_sub_cancel_left]
    have hv : systemValue (strapEnabled levels) (domainSlot d) = 0#8 := dif_neg (by rw [domainSlot_val]; omega)
    rw [hslot hid, hv]
    rfl
  · rw [State.released_slot, releasedSlot_user _ hi]
    rfl

end Sys2Proof.Machine
end

section
/-! The commands of the directory as they are answered: CLAIM, LOCK, DECLARE and the inspections (R12, R13, R20 to R22, R79,
R122). -/

namespace Sys2Proof.Machine

open Sys2Proof

/-! ## Taking a command -/

section takes
variable {s : State} {p : Port} {tag : Byte} {c : Command} {rest : List Queued}

/-- The state in which a command taken has its effect agrees with the one before in all but the port's queue, the last-served
port and the request chosen. -/
theorem Takes.serving (h : Takes s p tag c rest) :
    s.serving p ⟨tag, c⟩
      = { s with ports := s.ports.set p { s.ports[p] with submit := rest }, lastServed := p, taking := none } :=
  State.serving_eq s h

theorem Takes.serving_slots (h : Takes s p tag c rest) : (s.serving p ⟨tag, c⟩).slots = s.slots := by rw [h.serving]
theorem Takes.serving_idMap (h : Takes s p tag c rest) : (s.serving p ⟨tag, c⟩).idMap = s.idMap := by rw [h.serving]
theorem Takes.serving_pins (h : Takes s p tag c rest) : (s.serving p ⟨tag, c⟩).pins = s.pins := by rw [h.serving]
theorem Takes.serving_services (h : Takes s p tag c rest) : (s.serving p ⟨tag, c⟩).services = s.services := by rw [h.serving]
theorem Takes.serving_domains (h : Takes s p tag c rest) : (s.serving p ⟨tag, c⟩).domains = s.domains := by rw [h.serving]

theorem Takes.serving_cls (h : Takes s p tag c rest) (q : Port) :
    ((s.serving p ⟨tag, c⟩).ports[q]).cls = s.ports[q].cls := by
  rw [h.serving]
  dsimp only
  rw [set_get]
  split
  · next hq => rw [hq]
  · rfl

theorem Takes.names (h : Takes s p tag c rest) {hd : Handle} {i : SlotNo} {r : Record} (hn : Names s hd i r) :
    Names (s.serving p ⟨tag, c⟩) hd i r := by
  simpa only [Names, h.serving_slots] using hn

/-- No indication is on its way when a command is taken (R143). -/
theorem Takes.no_indication (h : Takes s p tag c rest) (q : Port) : s.ports[q].inIndication = none :=
  ((State.quiet_spec s (State.choice_quiet s h.1)).2.2 q).2.1

theorem Takes.serving_indication (h : Takes s p tag c rest) (q : Port) :
    ((s.serving p ⟨tag, c⟩).ports[q]).inIndication = none := by
  rw [h.serving]
  dsimp only
  rw [set_get]
  split
  · exact h.no_indication p
  · exact h.no_indication q

/-- A command that comes to a refusal is answered with it, and nothing else comes of it. -/
theorem Takes.bare {act : Command → Option (State → Done)} {f : State → Done} (h : Takes s p tag c rest)
    (ha : act c = some f) {status : Status}
    (hf : f (s.serving p ⟨tag, c⟩) = { state := s.serving p ⟨tag, c⟩, status := status, fields := [] }) :
    (.next (s.takeCommand p act) : Host.Outcome State Fault Refusal) = s.bare p tag c.opcode rest status := by
  rw [State.takeCommand_idle s h ha (by rw [hf]), hf]
  rfl

/-- A command that changes nothing is answered with its fields, and nothing else comes of it. -/
theorem Takes.reports {act : Command → Option (State → Done)} {f : State → Done} (h : Takes s p tag c rest)
    (ha : act c = some f) {status : Status} {fields : List Byte}
    (hf : f (s.serving p ⟨tag, c⟩) = { state := s.serving p ⟨tag, c⟩, status := status, fields := fields }) :
    s.takeCommand p act = s.answered p rest { tag := tag, code := c.opcode, status := status, fields := fields } := by
  rw [State.takeCommand_idle s h ha (by rw [hf]), hf]

/-- A command that alters slots and Id Map alone owes no indication. -/
theorem Takes.directory {act : Command → Option (State → Done)} {f : State → Done} (h : Takes s p tag c rest)
    (ha : act c = some f) {slots : Vector Slot 128} {map : List (Half × SlotNo)} {status : Status} {fields : List Byte}
    (hf : f (s.serving p ⟨tag, c⟩)
      = { state := { s.serving p ⟨tag, c⟩ with slots := slots, idMap := map }, status := status, fields := fields }) :
    s.takeCommand p act
      = { s.answered p rest { tag := tag, code := c.opcode, status := status, fields := fields } with
          slots := slots, idMap := map } := by
  have hanswered : ({ s.serving p ⟨tag, c⟩ with slots := slots, idMap := map } : State).sendAnswer p
        { tag := tag, code := c.opcode, status := status, fields := fields }
      = { s.answered p rest { tag := tag, code := c.opcode, status := status, fields := fields } with
          slots := slots, idMap := map } := by
    rw [h.serving]
    simp [State.sendAnswer, State.modPort, State.answered]
  rw [State.takeCommand_takes s h ha, hf, hanswered]
  refine State.sendIndications_none _ fun q => ?_
  dsimp only [State.answered]
  rw [set_get]
  split
  · exact h.no_indication p
  · exact h.no_indication q

end takes

/-- A handle that names a LIVE record passes the check, and the command's own part follows (R6). -/
theorem State.withHandle_names {s : State} {pass : Bool} {h : Handle} {i : SlotNo} {r : Record} (hn : Names s h i r)
    (hl : r.state = .live) (act : SlotNo → Record → Done) : s.withHandle pass h act = act i r := by
  unfold State.withHandle
  rw [State.checkHandle_names s hn (.inl hl)]

theorem isSystemSlot_of_lt {i : SlotNo} (h : i.val < 20) : isSystemSlot i = true := (isSystemSlot_iff i).mpr h

theorem not_system_of_le {i : SlotNo} (h : 20 ≤ i.val) : ¬ isSystemSlot i = true := by
  rw [isSystemSlot_iff]
  omega

theorem isSystemSlot_of_le {i : SlotNo} (h : 20 ≤ i.val) : isSystemSlot i = false := by
  rw [← Bool.not_eq_true, isSystemSlot_iff]
  omega

/-! ## CLAIM -/

/-- CLAIM on a LIVE record by its checks (R20). -/
theorem State.claim_eq {s : State} {p : Port} {h : Handle} {i : SlotNo} {r : Record} (hn : Names s h i r)
    (hl : r.state = .live) :
    s.claim p h =
      if isSystemSlot i then refuse s .denied
      else if r.locked then refuse s .locked
      else
        match r.owner with
        | .nobody => { state := s.modRecord i fun r => { r with owner := .port p }, status := .ok, fields := [] }
        | .port q => if q = p then { state := s, status := .ok, fields := [] } else refuse s .owned
        | .pin _ | .system => refuse s .owned := by
  exact State.withHandle_names hn hl _

/-- Settles O28: the checks in their order, each outcome at the taken command. -/
theorem claimOutcomes : Obligations.ClaimOutcomes := by
  intro s p tag h rest i r ht hn hl
  have hclaim := State.claim_eq (p := p) (ht.names hn) hl
  refine ⟨fun hi => ?_, fun hi hk => ?_, fun hi hk => ⟨fun ho => ?_, fun ho => ?_, fun ho hp => ?_⟩⟩
  · refine ht.bare (f := fun t => t.claim p h) rfl ?_
    rw [hclaim, isSystemSlot_of_lt hi]; rfl
  · refine ht.bare (f := fun t => t.claim p h) rfl ?_
    rw [hclaim, isSystemSlot_of_le hi, hk]; rfl
  · have hdir := ht.directory (act := fun | .claim h => some fun t => t.claim p h | _ => none)
      (f := fun t => t.claim p h) rfl (slots := s.slots.set i { s.slots[i] with record := some { r with owner := .port p } })
      (map := s.idMap) (status := .ok) (fields := []) (by
        rw [hclaim, if_neg (not_system_of_le hi), if_neg (Bool.eq_false_iff.mp hk), ho]
        simp only [State.modRecord, ht.serving_slots, hn.2.2, Option.map_some]
        rw [← ht.serving_idMap])
    exact congrArg Host.Outcome.next hdir
  · refine ht.bare (f := fun t => t.claim p h) rfl ?_
    rw [hclaim, isSystemSlot_of_le hi, hk, ho]
    simp only [Bool.false_eq_true, if_false, if_true]
  · refine ht.bare (f := fun t => t.claim p h) rfl ?_
    rw [hclaim, isSystemSlot_of_le hi, hk]
    simp only [Bool.false_eq_true, if_false]
    cases hc : r.owner with
    | nobody => exact absurd hc ho
    | port q => exact if_neg fun e => hp (hc.trans (congrArg Owner.port e))
    | pin g => rfl
    | system => rfl

/-! ## LOCK -/

/-- LOCK from a CONTROL port on a LIVE record by its checks (R22). -/
theorem State.lock_eq {s : State} {p : Port} {h : Handle} {i : SlotNo} {r : Record} (hn : Names s h i r)
    (hl : r.state = .live) (hc : s.ports[p].cls = .control) :
    s.lock p h =
      if isSystemSlot i then refuse s .denied
      else if s.inputBound i then refuse s .bound
      else { state := s.modRecord i fun r => { r with locked := true }, status := .ok, fields := [] } := by
  unfold State.lock controlOnly
  rw [hc]
  exact State.withHandle_names hn hl _

/-- Settles O29: the checks in their order; a record is INPUT-bound exactly where a pin is bound to it as INPUT. -/
theorem lockOutcomes : Obligations.LockOutcomes := by
  intro s p tag h rest i r ht hn hl hc hb
  have hlock := State.lock_eq (p := p) (ht.names hn) hl ((ht.serving_cls p).trans hc)
  have hin : (s.serving p ⟨tag, .lock h⟩).inputBound i = s.inputBound i := by
    simp only [State.inputBound, State.boundPin, ht.serving_pins]
  rw [hin] at hlock
  refine ⟨fun hi => ?_, fun hi hg => ?_, fun hi hg => ?_⟩
  · refine ht.bare (f := fun t => t.lock p h) rfl ?_
    rw [hlock, isSystemSlot_of_lt hi]; rfl
  · refine ht.bare (f := fun t => t.lock p h) rfl ?_
    rw [hlock, isSystemSlot_of_le hi, (s.inputBound_iff hb.boundOnce i).mpr hg]; rfl
  · have hno : s.inputBound i = false := by
      rw [← Bool.not_eq_true, s.inputBound_iff hb.boundOnce i]
      exact fun ⟨g, h⟩ => hg g h
    have hdir := ht.directory (act := fun | .lock h => some fun t => t.lock p h | _ => none)
      (f := fun t => t.lock p h) rfl (slots := s.slots.set i { s.slots[i] with record := some { r with locked := true } })
      (map := s.idMap) (status := .ok) (fields := []) (by
        rw [hlock, if_neg (not_system_of_le hi), if_neg (Bool.eq_false_iff.mp hno)]
        simp only [State.modRecord, ht.serving_slots, hn.2.2, Option.map_some]
        rw [← ht.serving_idMap])
    exact congrArg Host.Outcome.next hdir

/-! ## DECLARE -/

theorem kindOf_kindByte (k : Kind) : kindOf (kindByte k) = some k := by cases k <;> rfl

theorem kindOf_none {b : Byte} (h : 2 ≤ b.toNat) : kindOf b = none := by
  have h0 : b ≠ 0x00#8 := by rintro rfl; exact absurd h (by decide)
  have h1 : b ≠ 0x01#8 := by rintro rfl; exact absurd h (by decide)
  rw [kindOf, if_neg h0, if_neg h1]

theorem policyOf_policyByte (o : Policy) : policyOf (policyByte o) = some o := by cases o <;> rfl

theorem policyOf_none {b : Byte} (h : 3 ≤ b.toNat) : policyOf b = none := by
  have h0 : b ≠ 0x00#8 := by rintro rfl; exact absurd h (by decide)
  have h1 : b ≠ 0x01#8 := by rintro rfl; exact absurd h (by decide)
  have h2 : b ≠ 0x02#8 := by rintro rfl; exact absurd h (by decide)
  rw [policyOf, if_neg h0, if_neg h1, if_neg h2]

theorem recordDomainOf_domainByte (d : Option Dom) : recordDomainOf (domainByte d) = some d := by
  cases d with
  | none => rfl
  | some d => revert d; decide

theorem recordDomainOf_none {b : Byte} (h : 8 ≤ b.toNat) (hb : b ≠ 0xFF#8) : recordDomainOf b = none := by
  rw [recordDomainOf, if_neg hb, domOf, dif_neg (Nat.not_lt.mpr h)]
  rfl

/-- A DECLARE with a parameter out of its range is refused before anything else is looked at (R12). -/
theorem State.declare_badParam {s : State} {p : Port} {id : Half} {kind init dflt dom policy : Byte}
    (h : 0xFF00 ≤ id.toNat ∨ 2 ≤ kind.toNat ∨ (8 ≤ dom.toNat ∧ dom ≠ 0xFF#8) ∨ 3 ≤ policy.toNat) :
    s.declare p id kind init dflt dom policy = refuse s .badParam := by
  unfold State.declare
  split
  · rfl
  · next hid =>
    split
    · next k d o hk hd ho =>
      rcases h with h | h | ⟨h, hne⟩ | h
      · exact absurd h hid
      · rw [kindOf_none h] at hk; cases hk
      · rw [recordDomainOf_none h hne] at hd; cases hd
      · rw [policyOf_none h] at ho; cases ho
    · rfl

/-- A DECLARE with good parameters, by the checks that follow (R12). -/
theorem State.declare_eq (s : State) (p : Port) {id : Half} (k : Kind) (init dflt : Byte) (d : Option Dom) (o : Policy)
    (hid : id.toNat < 0xFF00) :
    s.declare p id (kindByte k) init dflt (domainByte d) (policyByte o) =
      if (idFind id s.idMap).isSome then refuse s .idInUse
      else if s.domainHeld d then refuse s .domainHeld
      else
        match s.lowestFree with
        | none => refuse s .tableFull
        | some i =>
          { state :=
              { s with
                slots := s.slots.set i
                  { gen := nextGeneration s.slots[i].gen, record := some (declaredRecord p id k init dflt d o) }
                idMap := idInsert id i s.idMap }
            status := .ok
            fields := handleField i (nextGeneration s.slots[i].gen) } := by
  unfold State.declare
  rewrite [if_neg (Nat.not_le.mpr hid), kindOf_kindByte, recordDomainOf_domainByte, policyOf_policyByte]
  cases s.lowestFree <;> rfl

/-- The FREE user slot with the lowest number, if there is one (R13). -/
theorem State.lowestFree_none {s : State} (h : ∀ i : SlotNo, 20 ≤ i.val → s.slots[i].record ≠ none) : s.lowestFree = none := by
  refine List.find?_eq_none.mpr fun i hi => ?_
  simpa only [State.isFree, Option.isNone_iff_eq_none] using h i (mem_userSlots.mp hi)

theorem userSlots_sorted : userSlots.Pairwise (· < ·) := (List.pairwise_lt_finRange 128).filter _

theorem State.lowestFree_some {s : State} {i : SlotNo} (hi : 20 ≤ i.val) (hf : s.slots[i].record = none)
    (h : ∀ j : SlotNo, 20 ≤ j.val → j < i → s.slots[j].record ≠ none) : s.lowestFree = some i := by
  cases hl : s.lowestFree with
  | none =>
    have := List.find?_eq_none.mp hl i (mem_userSlots.mpr hi)
    simp only [State.isFree, hf, Option.isNone_none, not_true_eq_false] at this
  | some j =>
    obtain ⟨hfree, as, bs, hlist, has⟩ := List.find?_eq_some_iff_append.mp hl
    have hfree : s.slots[j].record = none := by simpa only [State.isFree, Option.isNone_iff_eq_none] using hfree
    have hj : 20 ≤ j.val := mem_userSlots.mp (hlist ▸ List.mem_append_right as List.mem_cons_self)
    have hnot : ¬ j < i := fun hlt => h j hj hlt hfree
    have hmem : i ∈ as ++ j :: bs := hlist ▸ mem_userSlots.mpr hi
    have hsort := hlist ▸ userSlots_sorted
    rcases List.mem_append.mp hmem with hmem | hmem
    · have := has i hmem
      simp only [State.isFree, hf, Option.isNone_none, Bool.not_true, Bool.false_eq_true] at this
    · rcases List.mem_cons.mp hmem with rfl | hmem
      · rfl
      · have hlt := List.rel_of_pairwise_cons (List.pairwise_append.mp hsort).2.1 hmem
        exact absurd hlt (fun e => by exact (h j hj e hfree).elim)

/-- Settles O26: the checks of R12 in order; the lowest FREE user slot takes the record, and the Id Map its id. -/
theorem declareOutcomes : Obligations.DeclareOutcomes := by
  intro s p tag id kind init dflt dom policy rest ht hmap
  refine ⟨fun hbad => ht.bare (f := fun t => t.declare p id kind init dflt dom policy) rfl (State.declare_badParam hbad), ?_⟩
  rintro k d o hid rfl rfl rfl
  have hact := fun t : State => t.declare_eq p k init dflt d o hid
  have hfind : ∀ j, idFind id s.idMap = some j ↔ s.idAt j = some id := hmap.find id
  have hheld : (s.serving p ⟨tag, .declare id (kindByte k) init dflt (domainByte d) (policyByte o)⟩).domainHeld d
      = s.domainHeld d := by simp only [State.domainHeld, ht.serving_domains]
  refine ⟨fun ⟨j, hj⟩ => ?_, fun hnone => ?_⟩
  · refine ht.bare (f := fun t => t.declare p id _ init dflt _ _) rfl ?_
    rw [hact, ht.serving_idMap, (hfind j).mpr hj]; rfl
  · have hfresh : idFind id s.idMap = none := by
      cases hf : idFind id s.idMap with
      | none => rfl
      | some j => exact absurd ((hfind j).mp hf) (hnone j)
    have hidle : ¬ (idFind id s.idMap).isSome = true := by rw [hfresh]; exact Bool.noConfusion
    refine ⟨fun hh => ?_, fun hh => ⟨fun hfull => ?_, fun i hi hfree hlow => ?_⟩⟩
    · refine ht.bare (f := fun t => t.declare p id _ init dflt _ _) rfl ?_
      rw [hact, ht.serving_idMap, if_neg hidle, hheld, hh]; rfl
    · refine ht.bare (f := fun t => t.declare p id _ init dflt _ _) rfl ?_
      rw [hact, ht.serving_idMap, if_neg hidle, hheld, hh, State.lowestFree_none (by rw [ht.serving_slots]; exact hfull)]
      rfl
    · have hplace := State.lowestFree_some (s := s.serving p ⟨tag, .declare id (kindByte k) init dflt (domainByte d) (policyByte o)⟩)
        hi (by rw [ht.serving_slots]; exact hfree) (by rw [ht.serving_slots]; exact hlow)
      have hdir := ht.directory (act := fun
          | .declare id kind init dflt dom policy => some fun t => t.declare p id kind init dflt dom policy
          | _ => none) (f := fun t => t.declare p id _ init dflt _ _) rfl
        (slots := s.slots.set i { gen := nextGeneration s.slots[i].gen, record := some (declaredRecord p id k init dflt d o) })
        (map := idInsert id i s.idMap) (status := .ok) (fields := handleField i (nextGeneration s.slots[i].gen)) (by
          rw [hact, ht.serving_idMap, if_neg hidle, hheld, hh, if_neg Bool.noConfusion, hplace]
          simp only [ht.serving_slots])
      have hrec : declaredRecord p id k init dflt d o
          = { state := .live, id := id, kind := k, value := if k = .level then init else 0#8, version := 0#16
              dflt := if k = .level then some dflt else none, domain := d, owner := .port p, policy := some o
              locked := false, subs := Vector.replicate 6 none } := by
        cases k <;> rfl
      refine ⟨_, nextGeneration s.slots[i].gen, congrArg Host.Outcome.next hdir, rfl, ?_, ?_⟩
      · rw [hrec]; rfl
      · have hdec : Declares s { s with
            slots := s.slots.set i
              { gen := nextGeneration s.slots[i].gen, record := some (declaredRecord p id k init dflt d o) }
            idMap := idInsert id i s.idMap } i (declaredRecord p id k init dflt d o) :=
          ⟨hi, hfree, hfresh, rfl, trivial, rfl⟩
        exact hdec.idMapExact hmap

/-! ## Inspections -/

theorem State.lookup_none {s : State} {id : Half} (h : idFind id s.idMap = none) : s.lookup id = refuse s .notFound := by
  simp only [State.lookup, h]

theorem State.lookup_some {s : State} {id : Half} {i : SlotNo} {r : Record} (h : idFind id s.idMap = some i)
    (hr : s.slots[i].record = some r) : s.lookup id = { state := s, status := .ok, fields := s.lookupFields i r } := by
  simp only [State.lookup, h, hr]

/-- Priority and OVERDUE share a byte without meeting (R164). -/
theorem priorityByte_or (k : Prio) (o : Bool) :
    byteOf k ||| (if o = true then 0x80#8 else 0#8) = BitVec.ofNat 8 k.val + (if o = true then 0x80#8 else 0#8) := by
  revert k o
  decide

theorem State.entryBytes_eq {s : State} {p : Port} {e : Entry} (h : (s.subAt e.slot p).isSome = true) :
    s.entryBytes p e = [BitVec.ofNat 8 e.slot.val, s.slots[e.slot].gen,
      BitVec.ofNat 8 (s.priorityAt p e.slot) + (if e.overdue = true then 0x80#8 else 0#8), e.token] := by
  obtain ⟨u, hu⟩ := Option.isSome_iff_exists.mp h
  simp only [State.entryBytes, State.priorityAt, hu, priorityByte_or]
  rfl

theorem pinOf_val {b : Byte} {g : Pin} (h : b.toNat = g.val) : pinOf b = some g := by
  have hlt : b.toNat < 16 := h ▸ g.isLt
  rw [pinOf, dif_pos hlt]
  exact congrArg some (Fin.ext h)

theorem pinOf_none {b : Byte} (h : 16 ≤ b.toNat) : pinOf b = none := dif_neg (Nat.not_lt.mpr h)

theorem State.pinQuery_eq {s : State} {b : Byte} {g : Pin} (h : b.toNat = g.val) :
    s.pinQuery b =
      { state := s, status := .ok
        fields := s.bindingBytes s.pins[g]
          ++ [levelByte s.pins[g].raw, s.pins[g].acceptedByte, s.pins[g].drivenByte] } := by
  simp only [State.pinQuery, pinOf_val h]

/-- The fields of a PIN_QUERY answer, by the binding of a pin whose wire side agrees with it (Table 7-4). -/
theorem State.pinQuery_fields {s : State} {g : Pin} (hw : WireAgrees s.pins[g]) (fields : List Byte)
    (hf : fields = s.bindingBytes s.pins[g]
      ++ [levelByte s.pins[g].raw, s.pins[g].acceptedByte, s.pins[g].drivenByte]) :
    (s.pins[g].binding = none →
        fields = [0#8, 0xFF#8, 0xFF#8, 0xFF#8, 0xFF#8, 0xFF#8, 0xFF#8, levelByte s.pins[g].raw, 0xFF#8, 0xFF#8])
    ∧ (∀ b f x, s.pins[g].binding = some b → b.dir = .input f → s.pins[g].input = some x →
        fields = [1#8, BitVec.ofNat 8 b.slot.val, s.slots[b.slot].gen, 0#8, levelByte b.active, b.serial,
          BitVec.ofNat 8 f.val, levelByte s.pins[g].raw, levelByte x.accepted, 0xFF#8])
    ∧ ∀ b l, s.pins[g].binding = some b → b.dir = .output → s.pins[g].driver = .driving l →
        fields = [1#8, BitVec.ofNat 8 b.slot.val, s.slots[b.slot].gen, 1#8, levelByte b.active, b.serial,
          0xFF#8, levelByte s.pins[g].raw, 0xFF#8, levelByte l] := by
  unfold WireAgrees at hw
  refine ⟨fun hb => ?_, fun b f x hb hd hx => ?_, fun b l hb hd hl => ?_⟩
  · rw [hb] at hw
    simp only [hf, State.bindingBytes, hb, PinState.acceptedByte, PinState.drivenByte, hw.1, hw.2]
    rfl
  · simp only [hb, hd] at hw
    simp only [hf, State.bindingBytes, hb, hd, PinState.acceptedByte, PinState.drivenByte, hx, hw.2]
    rfl
  · simp only [hb, hd] at hw
    simp only [hf, State.bindingBytes, hb, hd, PinState.acceptedByte, PinState.drivenByte, hw.1, hl]
    rfl

/-- Settles O30: each inspection answers its fields from the state as it stands, and alters nothing. -/
theorem inspectionsReport : Obligations.InspectionsReport := by
  refine ⟨fun s p tag id rest ht hmap => ⟨fun hnone => ?_, fun i r hr hid => ?_⟩, fun s p tag rest ht hserv => ?_,
    fun s p tag pin rest ht => ⟨fun hpin => ?_, fun g hg hw => ?_⟩⟩
  · refine ht.bare (f := fun t => t.lookup id) rfl (State.lookup_none ?_)
    rw [ht.serving_idMap]
    cases hf : idFind id s.idMap with
    | none => rfl
    | some j => exact absurd ((hmap.find id j).mp hf) (hnone j)
  · have hfind : idFind id s.idMap = some i := (hmap.find id i).mpr (by rw [State.idAt, hr, ← hid]; rfl)
    have hlook := State.lookup_some (s := s.serving p ⟨tag, .lookup id⟩) (by rw [ht.serving_idMap]; exact hfind)
      (by rw [ht.serving_slots]; exact hr)
    have hrep := ht.reports (act := fun | .lookup id => some fun t => t.lookup id | _ => none)
      (f := fun t => t.lookup id) rfl hlook
    have hbound : (s.serving p ⟨tag, .lookup id⟩).boundPin i = s.boundPin i := by
      simp only [State.boundPin, ht.serving_pins]
    refine (congrArg Host.Outcome.next hrep).trans ?_
    simp only [State.lookupFields, hbound, ht.serving_slots]
    cases s.boundPin i <;> rfl
  · have hrep := ht.reports (act := fun | .serviceList => some fun t => t.serviceList p | _ => none)
      (f := fun t => t.serviceList p) rfl (status := .ok) rfl
    refine (congrArg Host.Outcome.next hrep).trans ?_
    have hsub : ∀ i, (s.serving p ⟨tag, .serviceList⟩).subAt i p = s.subAt i p := fun i => by
      simp only [State.subAt, ht.serving_slots]
    have hbytes : ∀ e ∈ s.services[p].list, (s.serving p ⟨tag, .serviceList⟩).entryBytes p e
        = [BitVec.ofNat 8 e.slot.val, s.slots[e.slot].gen,
          BitVec.ofNat 8 (s.priorityAt p e.slot) + (if e.overdue = true then 0x80#8 else 0#8), e.token] := by
      intro e he
      rw [State.entryBytes_eq (by rw [hsub]; exact (hserv p).1 e he)]
      simp only [State.priorityAt, hsub, ht.serving_slots]
    simp only [State.pendingCount, hsub, ht.serving_services]
    rw [List.flatMap_congr hbytes]
    rfl
  · exact ht.bare (f := fun t => t.pinQuery pin) rfl (by simp only [State.pinQuery, pinOf_none hpin]; rfl)
  · have hrep := ht.reports (act := fun | .pinQuery pin => some fun t => t.pinQuery pin | _ => none)
      (f := fun t => t.pinQuery pin) rfl (State.pinQuery_eq hg)
    refine ⟨_, congrArg Host.Outcome.next hrep, State.pinQuery_fields hw _ ?_⟩
    simp only [State.bindingBytes, ht.serving_pins, ht.serving_slots]

end Sys2Proof.Machine
end

section
/-! The end of a happening, at which the indications owed are sent (R58, R63), and RETIRE (R15 to R17). -/

namespace Sys2Proof.Machine

open Sys2Proof

/-! ## Indications -/

theorem subAt_congr {s t : State} {i : SlotNo} (h : t.slots[i].record = s.slots[i].record) (q : Port) :
    t.subAt i q = s.subAt i q := by
  simp only [State.subAt, h]

/-- Eligibility is read from slots and service states alone (R62). -/
theorem anyEligible_congr {s t : State} (hs : t.slots = s.slots) (hv : t.services = s.services) (q : Port) :
    t.anyEligible q = s.anyEligible q := by
  simp only [State.anyEligible, State.eligibleAt, State.aboveService, State.subAt, hs, hv]

/-- An indication is owed to, or on its way to, port q. -/
def State.owes (s : State) (q : Port) : Prop := s.ports[q].inIndication.isSome = true

/-- A happening begun in s has come to m, where indications are owed; in t they have been sent, to the ports owed one. -/
theorem IndicationsSent.of_owes {s m t : State} {owed : List Port} (hs : t.slots = m.slots)
    (ht : ∀ q : Port, t.ports[q].inIndication = m.ports[q].inIndication.map fun _ => t.anyEligible q)
    (hm : ∀ q : Port, PendingSetDiffers s m q ∨ q ∈ owed → m.owes q) : IndicationsSent s t owed := by
  intro q
  rw [ht q]
  refine ⟨?_, fun hd => ?_⟩
  · cases m.ports[q].inIndication
    · exact .inl rfl
    · exact .inr rfl
  · have hdiff : PendingSetDiffers s m q ∨ q ∈ owed := by
      refine hd.imp_left fun ⟨i, hi⟩ => ⟨i, ?_⟩
      have hsub : t.subAt i q = m.subAt i q := subAt_congr (by rw [hs]) q
      rwa [hsub] at hi
    obtain ⟨b, hb⟩ := Option.isSome_iff_exists.mp (hm q hdiff)
    rw [hb]
    rfl

theorem IndicationsExact.of_owes {s m t : State} {owed : List Port} (hs : t.slots = m.slots)
    (ht : ∀ q : Port, t.ports[q].inIndication = m.ports[q].inIndication.map fun _ => t.anyEligible q)
    (hm : ∀ q : Port, m.owes q ↔ PendingSetDiffers s m q ∨ q ∈ owed) : IndicationsExact s t owed := by
  refine ⟨.of_owes hs ht fun q => (hm q).mpr, fun q hq => ?_⟩
  rw [ht q, Option.isSome_map] at hq
  refine ((hm q).mp hq).imp_left fun ⟨i, hi⟩ => ⟨i, ?_⟩
  have hsub : t.subAt i q = m.subAt i q := subAt_congr (by rw [hs]) q
  rwa [hsub]

/-- What the end of a happening leaves of the indications. -/
theorem State.sendIndications_indication (m : State) (q : Port) :
    m.sendIndications.ports[q].inIndication
      = m.ports[q].inIndication.map fun _ => m.sendIndications.anyEligible q := by
  have : m.sendIndications.anyEligible q = m.anyEligible q := anyEligible_congr rfl rfl q
  rw [State.sendIndications_get, this]

/-- A command of p has come to m, which agrees with the state of its taking at the ports but for indications owed; the answer
and the indications are sent. -/
theorem Takes.ends {s m : State} {p : Port} {tag : Byte} {c : Command} {rest : List Queued} (h : Takes s p tag c rest)
    (hm : ∀ q : Port, m.ports[q] = { (s.serving p ⟨tag, c⟩).ports[q] with inIndication := m.ports[q].inIndication })
    (a : Answer) {owed : List Port} (howed : ∀ q : Port, m.owes q ↔ PendingSetDiffers s m q ∨ q ∈ owed) :
    PortsStand (s.answered p rest a) (m.sendAnswer p a).sendIndications
      ∧ IndicationsExact s (m.sendAnswer p a).sendIndications owed := by
  have hsend : ∀ q : Port, (m.sendAnswer p a).ports[q].inIndication = m.ports[q].inIndication := by
    intro q
    rw [State.sendAnswer_ports, set_get]
    split
    · next hq => rw [hq]
    · rfl
  refine ⟨fun q => ?_, .of_owes rfl (m := m) (fun q => ?_) howed⟩
  · have hserv : (s.serving p ⟨tag, c⟩).ports[q] = if q = p then { s.ports[p] with submit := rest } else s.ports[q] := by
      rw [h.serving, ← set_get]
    rw [State.sendIndications_get]
    simp only [State.sendAnswer_ports, State.answered, set_get]
    split
    · next hq =>
      subst hq
      rw [if_pos rfl] at hserv
      rw [hm q, hserv]
    · next hq =>
      rw [if_neg hq] at hserv
      rw [hm q, hserv]
  · rw [State.sendIndications_indication, hsend]

/-- A command that has moved slots, Id Map, pins and ports alone leaves the answered state but for these. -/
theorem Takes.ends_frame {s m : State} {p : Port} {tag : Byte} {c : Command} {rest : List Queued} (h : Takes s p tag c rest)
    (hm : m = { s.serving p ⟨tag, c⟩ with slots := m.slots, idMap := m.idMap, pins := m.pins, ports := m.ports })
    (a : Answer) :
    (m.sendAnswer p a).sendIndications =
      { s.answered p rest a with
        slots := m.slots, idMap := m.idMap, pins := m.pins, ports := (m.sendAnswer p a).sendIndications.ports } := by
  obtain ⟨sl, im, pi, po, rfl⟩ : ∃ sl im pi po,
      m = { s.serving p ⟨tag, c⟩ with slots := sl, idMap := im, pins := pi, ports := po } := ⟨_, _, _, _, hm⟩
  rw [h.serving]
  rfl

/-! ## RETIRE -/

/-- RETIRE on a LIVE record by its checks (R15). -/
theorem State.retire_eq {s : State} {p : Port} {h : Handle} {i : SlotNo} {r : Record} (hn : Names s h i r)
    (hl : r.state = .live) :
    s.retire p h =
      if isSystemSlot i then refuse s .denied
      else if r.locked then refuse s .locked
      else if r.owner = .port p ∨ s.ports[p].cls = .control then
        { state := s.retireRecord i
          status := if ((s.retireRecord i).slots[i]).record.isNone then .ok else .retiring
          fields := [] }
      else refuse s .notOwner :=
  State.withHandle_names hn hl _

/-- A retirement owes an indication to each port whose subscription was pending: none is left so (R16, R58). -/
theorem State.retireRecord_owes {s : State} {i : SlotNo} {r : Record} (hr : s.slots[i].record = some r) {q : Port}
    (hq : ¬ s.owes q) : (s.retireRecord i).owes q ↔ PendingSetDiffers s (s.retireRecord i) q := by
  have hafter : isPending ((s.retireRecord i).subAt i q) = false := by
    unfold State.subAt
    rw [State.retireRecord_slot s i r hr, if_pos rfl]
    split
    · next x hx =>
      split at hx
      · cases hx
      · cases hx
        simp only [State.retiredRecord, ofFn_get]
        exact s.isPending_retiredSub i q _
    · rfl
  have hbefore : s.subAt i q = r.subs[q] := by simp only [State.subAt, hr]
  have hother : ∀ j, j ≠ i → (s.retireRecord i).subAt j q = s.subAt j q := fun j hj =>
    subAt_congr (by rw [s.retireRecord_other hr hj]) q
  have hpend : (s.retireRecord i).owes q ↔ isPending r.subs[q] = true := by
    unfold State.owes at hq ⊢
    rw [State.retireRecord_port s i r hr]
    split
    · next h => exact ⟨fun _ => h, fun _ => rfl⟩
    · next h => exact ⟨fun c => absurd c hq, fun c => absurd c h⟩
  rw [hpend, ← hbefore]
  constructor
  · exact fun h => ⟨i, by rw [hafter, h]; exact Bool.noConfusion⟩
  · rintro ⟨j, hj⟩
    by_cases hji : j = i
    · rw [hji, hafter] at hj
      exact Bool.eq_true_of_not_eq_false hj
    · exact absurd (congrArg isPending (hother j hji).symm) hj

/-- With nothing in service a retirement keeps no subscription, and with something in service it does (R16). -/
theorem State.retiredSub_none {s : State} {i : SlotNo} {r : Record} :
    (∀ q : Port, s.retiredSub i q r.subs[q] = none) ↔ ∀ q : Port, (r.subs[q]).isSome = true → s.inService q i = false := by
  have key : ∀ q : Port, s.retiredSub i q r.subs[q] = none ↔ ((r.subs[q]).isSome = true → s.inService q i = false) := by
    intro q
    unfold State.retiredSub unmarked
    cases hs : s.inService q i <;> cases r.subs[q] <;> simp
  exact ⟨fun h q => (key q).mp (h q), fun h q => (key q).mpr (h q)⟩

/-- The slot of a retired record is FREE where none of its subscriptions was in service. -/
theorem State.retireRecord_isNone {s : State} {i : SlotNo} {r : Record} (hr : s.slots[i].record = some r) :
    ((s.retireRecord i).slots[i]).record.isNone = true
      ↔ ∀ q : Port, (r.subs[q]).isSome = true → s.inService q i = false := by
  rw [← State.retiredSub_none, State.retireRecord_slot s i r hr, if_pos rfl]
  split
  · next hno => exact ⟨fun _ => hno, fun _ => rfl⟩
  · next hno => exact ⟨fun c => absurd c Bool.noConfusion, fun c => absurd c hno⟩

/-- A retirement touches nothing of a port but the indication on its way. -/
theorem State.retireRecord_portsStand {s : State} {i : SlotNo} {r : Record} (hr : s.slots[i].record = some r) :
    PortsStand s (s.retireRecord i) := by
  intro q
  rw [State.retireRecord_port s i r hr]
  split <;> rfl

/-- A record is INPUT-bound exactly where a pin owns it (R4). -/
theorem BindingsStand.inputBound_iff_owner {s : State} (h : BindingsStand s) {i : SlotNo} {r : Record}
    (hr : s.slots[i].record = some r) : s.inputBound i = true ↔ ∃ g : Pin, r.owner = .pin g :=
  ⟨h.inputBound_owner hr, fun ⟨_, hg⟩ => h.inputBound hr hg⟩

/-- Settles O27: the checks of R15 in order, then what a retirement leaves of slot, map, pins and indications. -/
theorem retireOutcomes : Obligations.RetireOutcomes := by
  intro s p tag h rest i r ht hn hl
  have hret := State.retire_eq (p := p) (ht.names hn) hl
  rw [ht.serving_cls] at hret
  refine ⟨fun hi => ?_, fun hi hk => ?_, fun hi hk ho hc => ?_, fun hi hk hauth hb => ?_⟩
  · refine ht.bare (f := fun t => t.retire p h) rfl ?_
    rw [hret, isSystemSlot_of_lt hi]; rfl
  · refine ht.bare (f := fun t => t.retire p h) rfl ?_
    rw [hret, isSystemSlot_of_le hi, hk]; rfl
  · refine ht.bare (f := fun t => t.retire p h) rfl ?_
    rw [hret, if_neg (not_system_of_le hi), if_neg (Bool.eq_false_iff.mp hk), if_neg]
    · rfl
    · rw [hc]
      rintro (e | e)
      · exact ho e
      · cases e
  · rw [if_neg (not_system_of_le hi), if_neg (Bool.eq_false_iff.mp hk), if_pos hauth] at hret
    have hex := State.takeCommand_takes s ht (act := fun | .retire h => some fun t => t.retire p h | _ => none)
      (f := fun t => t.retire p h) rfl
    rw [hret] at hex
    dsimp only at hex
    generalize hbdef : s.serving p ⟨tag, .retire h⟩ = b at hex
    have hslots : b.slots = s.slots := hbdef ▸ ht.serving_slots
    have hpins : b.pins = s.pins := hbdef ▸ ht.serving_pins
    have hidMap : b.idMap = s.idMap := hbdef ▸ ht.serving_idMap
    have hserv : ∀ q j, b.inService q j = s.inService q j := fun q j => by
      rw [State.inService, ← hbdef, ht.serving_services]; rfl
    have hr : b.slots[i].record = some r := by rw [hslots]; exact hn.2.2
    have hu : BoundOnce b := by
      unfold BoundOnce
      rw [hpins]
      exact hb.boundOnce
    have hown : b.inputBound i = true ↔ ∃ g : Pin, r.owner = .pin g := by
      rw [← hb.inputBound_iff_owner hn.2.2]
      simp only [State.inputBound, State.boundPin, hpins]
    have hnone : (∀ q : Port, b.retiredSub i q r.subs[q] = none)
        ↔ ∀ q : Port, (r.subs[q]).isSome = true → s.inService q i = false := by
      rw [State.retiredSub_none]
      simp only [hserv]
    have hslot := State.retireRecord_slot b i r hr
    have hstatus : ((b.retireRecord i).slots[i]).record.isNone = true
        ↔ ∀ q : Port, (r.subs[q]).isSome = true → s.inService q i = false := by
      rw [State.retireRecord_isNone hr]
      simp only [hserv]
    have hindication : ∀ q, ¬ b.owes q := fun q => by
      rw [State.owes, ← hbdef, ht.serving_indication]
      exact Bool.noConfusion
    obtain ⟨hstand, hexact⟩ := ht.ends (m := b.retireRecord i) (by rw [hbdef]; exact State.retireRecord_portsStand hr)
      { tag := tag, code := .retire, fields := []
        status := if ((b.retireRecord i).slots[i]).record.isNone then .ok else .retiring } (owed := []) fun q => by
        rw [State.retireRecord_owes hr (hindication q)]
        have hsub : ∀ j, b.subAt j q = s.subAt j q := fun j => subAt_congr (by rw [hslots]) q
        simp only [PendingSetDiffers, hsub, List.not_mem_nil, or_false]
    have hframe := ht.ends_frame (m := b.retireRecord i) (by rw [hbdef]; exact State.retireRecord_frame b i r hr)
      { tag := tag, code := .retire, fields := []
        status := if ((b.retireRecord i).slots[i]).record.isNone then .ok else .retiring }
    have hpin := State.retireRecord_pin b i r hu hr
    have hids := State.retireRecord_idMap b i r hr
    generalize b.retireRecord i = m at *
    refine ⟨_, _, congrArg Host.Outcome.next hex, rfl, rfl, rfl, hframe, fun j hj => ?_, fun g => ?_, fun hno => ?_,
      fun hsome => ?_, hstand, hexact⟩
    · rw [State.sendIndications_slots, State.sendAnswer_slots, hslot, if_neg (by simpa using hj), hslots]
    · rw [State.sendIndications_pins, State.sendAnswer_pins, hpin]
      simp only [hpins]
      rfl
    · have hall := hnone.mpr hno
      refine ⟨if_pos (hstatus.mpr hno), ?_, ?_⟩
      · rw [State.sendIndications_slots, State.sendAnswer_slots, hslot, if_pos rfl, if_pos hall, hslots]
      · rw [State.sendIndications_idMap, State.sendAnswer_idMap, hids, if_pos hall, hidMap]
        rfl
    · obtain ⟨q, hq, hin⟩ := hsome
      have hno : ¬ ∀ q : Port, (r.subs[q]).isSome = true → s.inService q i = false := fun c => by
        rw [c q hq] at hin
        cases hin
      have hall := fun c => hno (hnone.mp c)
      refine ⟨if_neg fun c => hno (hstatus.mp c), ?_, ?_⟩
      · rw [State.sendIndications_idMap, State.sendAnswer_idMap, hids, if_neg hall, hidMap]
      · rw [State.sendIndications_slots, State.sendAnswer_slots, hslot, if_pos rfl, if_neg hall, hslots]
        simp only [State.retiredRecord, State.retiredSub, unmarked, hserv, hown]

end Sys2Proof.Machine
end

section
/-! Happenings of many stages, read slot by slot: `ActsOn P s t` says that from s to t nothing but the slots that P names, the
pins bound to them and the indications owed on their account have been touched. Runs of operations on separate slots are read
by what each operation does at its own. -/

namespace Sys2Proof.Machine

open Sys2Proof

/-! ## Touching some slots alone -/

/-- From s to t, only slots that P names and pins bound to them differ, no pin has come to be bound, and an indication has come
to be owed exactly where a pending set differs. -/
structure ActsOn (P : SlotNo → Prop) (s t : State) : Prop where
  rest : t = { s with deadlines := t.deadlines, warnings := t.warnings, slots := t.slots, idMap := t.idMap
                      services := t.services, domains := t.domains, pins := t.pins, ports := t.ports }
  slot : ∀ i : SlotNo, ¬ P i → t.slots[i] = s.slots[i]
  pin : ∀ g : Pin, (∀ b ∈ s.pins[g].binding, ¬ P b.slot) → t.pins[g] = s.pins[g]
  bound : ∀ g : Pin, ∀ b ∈ t.pins[g].binding, b ∈ s.pins[g].binding
  ports : PortsStand s t
  owes : ∀ q : Port, t.owes q ↔ s.owes q ∨ PendingSetDiffers s t q

/-- Nothing of the slots, pins and ports differs. -/
theorem ActsOn.of_same {P : SlotNo → Prop} {s t : State}
    (rest : t = { s with deadlines := t.deadlines, warnings := t.warnings, slots := t.slots, idMap := t.idMap
                         services := t.services, domains := t.domains, pins := t.pins, ports := t.ports })
    (hs : t.slots = s.slots) (hg : t.pins = s.pins) (hp : t.ports = s.ports) : ActsOn P s t := by
  refine ⟨rest, fun i _ => by rw [hs], fun g _ => by rw [hg], fun g b hb => by rwa [hg] at hb, fun q => by rw [hp], fun q => ?_⟩
  simp only [State.owes, PendingSetDiffers, State.subAt, hs, hp, ne_eq, not_true_eq_false, exists_false, or_false]

theorem ActsOn.refl (P : SlotNo → Prop) (s : State) : ActsOn P s s := .of_same rfl rfl rfl rfl

theorem ActsOn.mono {P Q : SlotNo → Prop} {s t : State} (h : ActsOn P s t) (hPQ : ∀ i, P i → Q i) : ActsOn Q s t :=
  { h with
    slot := fun i hi => h.slot i fun c => hi (hPQ i c)
    pin := fun g hg => h.pin g fun b hb c => hg b hb (hPQ _ c) }

/-- Two runs of which at most one touches any pending mark. -/
theorem ActsOn.trans_marks {P Q : SlotNo → Prop} {s t u : State} (h : ActsOn P s t) (k : ActsOn Q t u)
    (hd : ∀ i q, isPending (t.subAt i q) = isPending (s.subAt i q) ∨ isPending (u.subAt i q) = isPending (t.subAt i q)) :
    ActsOn (fun i => P i ∨ Q i) s u where
  rest := k.rest.trans (by rw [h.rest])
  slot i hi := (k.slot i fun c => hi (.inr c)).trans (h.slot i fun c => hi (.inl c))
  pin g hg :=
    (k.pin g fun b hb c => hg b (h.bound g b hb) (.inr c)).trans (h.pin g fun b hb c => hg b hb (.inl c))
  bound g b hb := h.bound g b (k.bound g b hb)
  ports q := by rw [k.ports q, h.ports q]
  owes q := by
    rw [k.owes, h.owes, or_assoc]
    refine or_congr_right ⟨?_, ?_⟩
    · rintro (⟨i, hi⟩ | ⟨i, hi⟩)
      · rcases hd i q with e | e
        · exact absurd e.symm hi
        · exact ⟨i, by rw [e]; exact hi⟩
      · rcases hd i q with e | e
        · exact ⟨i, by rw [← e]; exact hi⟩
        · exact absurd e.symm hi
    · rintro ⟨i, hi⟩
      by_cases e : isPending (s.subAt i q) = isPending (t.subAt i q)
      · exact .inr ⟨i, by rw [← e]; exact hi⟩
      · exact .inl ⟨i, e⟩

theorem ActsOn.subAt {P : SlotNo → Prop} {s t : State} (h : ActsOn P s t) {i : SlotNo} (hi : ¬ P i) (q : Port) :
    t.subAt i q = s.subAt i q := subAt_congr (by rw [h.slot i hi]) q

/-- Two runs on separate slots. -/
theorem ActsOn.trans {P Q : SlotNo → Prop} {s t u : State} (h : ActsOn P s t) (k : ActsOn Q t u) (hd : ∀ i, P i → ¬ Q i) :
    ActsOn (fun i => P i ∨ Q i) s u := by
  refine h.trans_marks k fun i q => ?_
  by_cases hi : P i
  · exact .inr (by rw [k.subAt (hd i hi)])
  · exact .inl (by rw [h.subAt hi])

theorem ActsOn.boundOnce {P : SlotNo → Prop} {s t : State} (h : ActsOn P s t) (hu : BoundOnce s) : BoundOnce t :=
  fun g g' b hb c hc => hu g g' b (h.bound g b hb) c (h.bound g' c hc)

/-- From s to t, slot i and the pins bound to it, or to nothing, stand. -/
structure StandsAt (i : SlotNo) (s t : State) : Prop where
  slot : t.slots[i] = s.slots[i]
  wire : ∀ g : Pin, (∀ b ∈ s.pins[g].binding, b.slot = i) → t.pins[g] = s.pins[g]

theorem StandsAt.pin {i : SlotNo} {s t : State} (h : StandsAt i s t) (g : Pin) (b : Binding)
    (hb : s.pins[g].binding = some b) (hi : b.slot = i) : t.pins[g] = s.pins[g] :=
  h.wire g fun c hc => by
    rw [Option.mem_def, hb, Option.some.injEq] at hc
    rw [← hc, hi]

theorem StandsAt.refl (i : SlotNo) (s : State) : StandsAt i s s := ⟨rfl, fun _ _ => rfl⟩

theorem StandsAt.of_eq {i : SlotNo} {s t : State} (hs : t.slots = s.slots) (hp : t.pins = s.pins) : StandsAt i s t :=
  ⟨by rw [hs], fun g _ => by rw [hp]⟩

theorem StandsAt.trans {i : SlotNo} {s t u : State} (h : StandsAt i s t) (k : StandsAt i t u) : StandsAt i s u :=
  ⟨k.slot.trans h.slot, fun g hg => (k.wire g (by rw [h.wire g hg]; exact hg)).trans (h.wire g hg)⟩

/-- What acts on some slots leaves the others standing. -/
theorem ActsOn.standsAt {P : SlotNo → Prop} {s t : State} (h : ActsOn P s t) {i : SlotNo} (hi : ¬ P i) : StandsAt i s t :=
  ⟨h.slot i hi, fun g hg => h.pin g fun b hb c => hi (hg b hb ▸ c)⟩

/-! ## Folds -/

/-- A fold of operations that touch separate slots touches those of all. -/
theorem ActsOn.foldl {α : Type} {op : State → α → State} {touch : α → SlotNo → Prop} {Good : State → Prop} (l : List α)
    (hop : ∀ s, Good s → ∀ a ∈ l, ActsOn (touch a) s (op s a) ∧ Good (op s a))
    (hd : l.Pairwise fun a b => ∀ i, touch a i → ¬ touch b i) (s : State) (hs : Good s) :
    ActsOn (fun i => ∃ a ∈ l, touch a i) s (l.foldl op s) ∧ Good (l.foldl op s) := by
  induction l generalizing s with
  | nil => exact ⟨.refl _ s, hs⟩
  | cons a l ih =>
    obtain ⟨ha, hd⟩ := List.pairwise_cons.mp hd
    obtain ⟨h1, hg⟩ := hop s hs a List.mem_cons_self
    obtain ⟨h2, hg⟩ := ih (fun t ht b hb => hop t ht b (List.mem_cons_of_mem _ hb)) hd _ hg
    refine ⟨(h1.trans h2 fun i hi ⟨b, hb, hbi⟩ => ha b hb i hi hbi).mono fun i hi => ?_, hg⟩
    rcases hi with hi | ⟨b, hb, hi⟩
    · exact ⟨a, List.mem_cons_self, hi⟩
    · exact ⟨b, List.mem_cons_of_mem _ hb, hi⟩

/-- A fold of operations each of which leaves what concerns the others: what concerns one item is as its own operation left
it, at a state where it was as at the start. -/
theorem foldl_concerns {α : Type} {op : State → α → State} {R : α → State → State → Prop} {Good : State → Prop}
    (hrefl : ∀ a s, R a s s) (htrans : ∀ a s t u, R a s t → R a t u → R a s u) (l : List α) (hn : l.Nodup)
    (hop : ∀ s, Good s → ∀ a ∈ l, Good (op s a) ∧ ∀ b, b ≠ a → R b s (op s a)) (s : State) (hs : Good s) :
    (∀ b, b ∉ l → R b s (l.foldl op s))
      ∧ ∀ a ∈ l, ∃ m, Good m ∧ R a s m ∧ R a (op m a) (l.foldl op s) := by
  induction l generalizing s with
  | nil => exact ⟨fun b _ => hrefl b s, fun a ha => absurd ha List.not_mem_nil⟩
  | cons a l ih =>
    obtain ⟨ha, hn⟩ := List.nodup_cons.mp hn
    obtain ⟨hg, hothers⟩ := hop s hs a List.mem_cons_self
    obtain ⟨hout, hin⟩ := ih hn (fun t ht b hb => hop t ht b (List.mem_cons_of_mem _ hb)) _ hg
    refine ⟨fun b hb => ?_, fun b hb => ?_⟩
    · exact htrans b _ _ _ (hothers b fun c => hb (c ▸ List.mem_cons_self)) (hout b fun c => hb (List.mem_cons_of_mem _ c))
    · rcases List.mem_cons.mp hb with rfl | hb
      · exact ⟨s, hs, hrefl b s, hout b ha⟩
      · obtain ⟨m, hm, h1, h2⟩ := hin b hb
        exact ⟨m, hm, htrans b _ _ _ (hothers b fun c => ha (c ▸ hb)) h1, h2⟩

/-! ## The operations on one slot -/

/-- Indications have come to be owed to the ports that c names. -/
theorem owed_where {s t : State} {c : Port → Prop} [DecidablePred c]
    (h : ∀ q : Port, t.ports[q] = if c q then { s.ports[q] with inIndication := some false } else s.ports[q]) :
    PortsStand s t ∧ ∀ q : Port, t.owes q ↔ s.owes q ∨ c q := by
  refine ⟨fun q => ?_, fun q => ?_⟩
  · rw [h q]
    split <;> rfl
  · unfold State.owes
    rw [h q]
    split
    · next hc => exact ⟨fun _ => .inr hc, fun _ => rfl⟩
    · next hc => exact ⟨.inl, fun e => e.resolve_right hc⟩

/-- Where slot i alone differs, a pending set differs only there. -/
theorem pendingSetDiffers_at {s t : State} {i : SlotNo} (h : ∀ j : SlotNo, j ≠ i → t.slots[j] = s.slots[j]) (q : Port) :
    PendingSetDiffers s t q ↔ isPending (s.subAt i q) ≠ isPending (t.subAt i q) := by
  refine ⟨fun ⟨j, hj⟩ => ?_, fun h => ⟨i, h⟩⟩
  by_cases hji : j = i
  · rwa [hji] at hj
  · exact absurd (congrArg isPending (subAt_congr (by rw [h j hji]) q).symm) hj

section one
variable (s : State) (i : SlotNo)

theorem ActsOn.updSub (p : Port) (f : Option Sub → Option Sub) : ActsOn (· = i) s (s.updSub i p f) := by
  have hslot : ∀ j : SlotNo, j ≠ i → (s.updSub i p f).slots[j] = s.slots[j] := fun j hj => by
    cases hr : s.slots[i].record with
    | none => rw [State.updSub_free s i p f hr]
    | some r => rw [State.updSub_spec s i p f r hr, set_get, if_neg hj]
  obtain ⟨hports, howes⟩ := owed_where fun q => s.updSub_port i p f q
  refine ⟨by rw [State.updSub_frame], hslot, fun g _ => by simp only [State.updSub_pins],
    fun g b hb => by simpa only [State.updSub_pins] using hb, hports, fun q => ?_⟩
  rw [howes, pendingSetDiffers_at hslot]
  by_cases hq : q = p
  · subst hq
    simp only [true_and, ne_comm]
  · refine or_congr_right ⟨fun h => absurd h.1 hq, fun hne => absurd ?_ hne⟩
    cases hr : s.slots[i].record with
    | none => rw [State.updSub_free s i p f hr]
    | some r =>
      have hget : (r.subs.set p (f r.subs[p]))[q] = r.subs[q] := by rw [set_get, if_neg hq]
      simp only [State.subAt, State.updSub_record, if_true, hr, Option.map_some, hget]

theorem ActsOn.change (v : Byte) (n : Nat) : ActsOn (· = i) s (s.change i v n) := by
  have hslot : ∀ j : SlotNo, j ≠ i → (s.change i v n).slots[j] = s.slots[j] := fun j hj => by
    rw [State.change_get, if_neg hj]
  obtain ⟨hports, howes⟩ := owed_where (s := s) (t := s.change i v n)
    (c := fun q => isPending ((s.change i v n).subAt i q) ≠ isPending (s.subAt i q)) fun q => by
      rw [State.change_port, ite_not]
  refine ⟨by rw [State.change_frame], hslot, fun g hg => ?_, fun g b hb => ?_, hports, fun q => ?_⟩
  · rw [State.change_pin]
    cases hb : s.pins[g].binding with
    | none => rfl
    | some b =>
      refine if_neg fun ⟨_, hbound, _⟩ => ?_
      obtain ⟨b', hb', hs⟩ := State.boundPin_some s hbound
      exact hg b' hb' hs
  · rwa [(Steady.change s i v n).binding g] at hb
  · rw [howes, pendingSetDiffers_at hslot, ne_comm]

theorem ActsOn.setValue (v : Byte) : ActsOn (· = i) s (s.setValue i v) := by
  rw [State.setValue_eq]
  split
  · exact .refl _ s
  · exact .change s i v 0

/-- An alteration of a record that leaves its subscriptions. -/
theorem ActsOn.modRecord (f : Record → Record) (hf : ∀ r, (f r).subs = r.subs) : ActsOn (· = i) s (s.modRecord i f) := by
  have hslot : ∀ j : SlotNo, j ≠ i → (s.modRecord i f).slots[j] = s.slots[j] := fun j hj => s.modRecord_other f hj
  refine ⟨rfl, hslot, fun _ _ => rfl, fun _ _ hb => hb, fun _ => rfl, fun q => ?_⟩
  rw [pendingSetDiffers_at hslot]
  have hsub : (s.modRecord i f).subAt i q = s.subAt i q := by
    simp only [State.subAt, State.modRecord_record, if_true]
    cases s.slots[i].record with
    | none => rfl
    | some r => simp only [Option.map_some, hf]
  rw [hsub]
  exact ⟨.inl, fun h => h.resolve_right fun c => c rfl⟩

/-- A slot freed of a record without subscriptions. -/
theorem ActsOn.freeSlot (h : s.noSubsAt i = true) : ActsOn (· = i) s (s.freeSlot i) := by
  have hslot : ∀ j : SlotNo, j ≠ i → (s.freeSlot i).slots[j] = s.slots[j] := fun j hj => by
    rw [State.freeSlot_get, if_neg hj]
  refine ⟨by rw [State.freeSlot_frame], hslot, fun g _ => by simp only [State.freeSlot_pins],
    fun g b hb => by simpa only [State.freeSlot_pins] using hb, fun q => by simp only [State.freeSlot_ports], fun q => ?_⟩
  rw [pendingSetDiffers_at hslot]
  have hsub : (s.freeSlot i).subAt i q = s.subAt i q := by
    simp only [State.subAt, State.freeSlot_record, if_true]
    cases hr : s.slots[i].record with
    | none => rfl
    | some r =>
      simp only [State.noSubsAt, hr, Record.noSubs_iff] at h
      exact (h q).symm
  rw [hsub]
  simp only [State.owes, State.freeSlot_ports, ne_eq, not_true_eq_false, or_false]

theorem ActsOn.removeDraining (p : Port) : ActsOn (· = i) s (s.removeDraining i p) := by
  rw [State.removeDraining_eq]
  split
  · next hn =>
    refine ((ActsOn.updSub s i p _).trans_marks (.freeSlot _ i hn) fun j q => .inr ?_).mono fun j hj => hj.elim id id
    have hfree := ActsOn.freeSlot _ i hn
    by_cases hj : j = i
    · subst hj
      have hno : ((s.updSub j p fun _ => none).freeSlot j).subAt j q = none := by
        simp only [State.subAt, State.freeSlot_record, if_true]
      rw [hno]
      unfold State.subAt
      cases hr : (s.updSub j p fun _ => none).slots[j].record with
      | none => rfl
      | some r =>
        simp only [State.noSubsAt, hr, Record.noSubs_iff] at hn
        simp only [hn q]
    · rw [hfree.subAt hj]
  · exact .updSub s i p _

theorem ActsOn.retireRecord (hu : BoundOnce s) {r : Record} (hr : s.slots[i].record = some r) :
    ActsOn (· = i) s (s.retireRecord i) := by
  have hslot : ∀ j : SlotNo, j ≠ i → (s.retireRecord i).slots[j] = s.slots[j] := fun j hj => by
    rw [State.retireRecord_slot s i r hr, if_neg hj]
  obtain ⟨hports, howes⟩ := owed_where fun q => s.retireRecord_port i r hr q
  have hafter : ∀ q, isPending ((s.retireRecord i).subAt i q) = false := fun q => by
    unfold State.subAt
    rw [State.retireRecord_slot s i r hr, if_pos rfl]
    by_cases hno : ∀ q : Port, s.retiredSub i q r.subs[q] = none
    · rw [if_pos hno]
      rfl
    · rw [if_neg hno]
      simp only [State.retiredRecord, ofFn_get]
      exact s.isPending_retiredSub i q _
  refine ⟨by rw [State.retireRecord_frame s i r hr], hslot, fun g hg => ?_, fun g b hb => ?_, hports, fun q => ?_⟩
  · rw [State.retireRecord_pin s i r hu hr, if_neg]
    cases hb : s.pins[g].binding with
    | none => exact Bool.noConfusion
    | some b => exact fun c => hg b hb (of_decide_eq_true c)
  · rw [State.retireRecord_pin s i r hu hr] at hb
    split at hb
    · cases hb
    · exact hb
  · have hbefore : s.subAt i q = r.subs[q] := by simp only [State.subAt, hr]
    rw [howes, pendingSetDiffers_at hslot, hafter, hbefore, Bool.ne_false_iff]

end one

/-! ## A record given a value -/

/-- The record r given the value v, where `serving` says which ports have it in service: one change, or none (R27, R28). -/
def Record.given (serving : Port → Bool) (v : Byte) (r : Record) : Record :=
  if v = r.value then r
  else
    { r with
      value := v
      version := r.version + 1
      subs := Vector.ofFn fun q : Port => (r.subs[q]).map fun u => u.afterChange (serving q) r.value v 0 }

theorem Record.given_value (serving : Port → Bool) (v : Byte) (r : Record) : (r.given serving v).value = v := by
  unfold Record.given
  split
  · next h => exact h.symm
  · rfl

/-- To be given the value held is to stay as one is. -/
theorem Record.given_same {serving : Port → Bool} {v : Byte} {r : Record} (h : v = r.value) : r.given serving v = r := if_pos h

theorem Record.given_given (serving : Port → Bool) (v : Byte) (r : Record) :
    (r.given serving v).given serving v = r.given serving v :=
  Record.given_same (Record.given_value serving v r).symm

theorem Record.given_form (serving : Port → Bool) (v : Byte) (r : Record) : (r.given serving v).form = r.form := by
  unfold Record.given
  split <;> rfl

theorem Record.given_sub (serving : Port → Bool) (v : Byte) (r : Record) (q : Port) :
    (r.given serving v).subs[q]
      = if v = r.value then r.subs[q] else (r.subs[q]).map fun u => u.afterChange (serving q) r.value v 0 := by
  unfold Record.given
  split
  · rfl
  · exact ofFn_get _ q

theorem State.setValue_record (s : State) (i j : SlotNo) (v : Byte) :
    (s.setValue i v).slots[j].record
      = if j = i then s.slots[i].record.map (Record.given (fun q => s.inService q i) v) else s.slots[j].record := by
  by_cases hj : j = i
  · subst hj
    rw [if_pos rfl, State.setValue_eq]
    cases hr : s.slots[j].record with
    | none =>
      split
      · exact hr
      · rw [State.change_free s j v 0 hr]
        exact hr
    | some r =>
      have hval : s.valueAt j = r.value := by simp only [State.valueAt, hr]
      rw [hval, Option.map_some]
      split
      · next h => rw [hr, Record.given_same h.symm]
      · next h =>
        rw [State.change_record, if_pos rfl, hr, Option.map_some, Record.given, if_neg (Ne.symm h)]
        rfl
  · rw [if_neg hj, State.setValue_other s v hj]

/-- A pin x bound by b to the record r, after r has been given the value v: an OUTPUT pin follows a change (R28). -/
def PinState.following (x : PinState) (b : Binding) (r : Record) (v : Byte) : PinState :=
  if b.dir = .output ∧ v ≠ r.value then { x with driver := .driving (driveLevel b.active v) } else x

theorem PinState.following_binding (x : PinState) (b : Binding) (r : Record) (v : Byte) :
    (x.following b r v).binding = x.binding := by
  unfold PinState.following
  split <;> rfl

theorem PinState.following_same {x : PinState} {b : Binding} {r : Record} {v : Byte} (h : v = r.value) :
    x.following b r v = x := if_neg fun c => c.2 h

theorem State.setValue_pin {s : State} (hu : BoundOnce s) {i : SlotNo} {r : Record} (hr : s.slots[i].record = some r)
    {g : Pin} {b : Binding} (hb : s.pins[g].binding = some b) (hi : b.slot = i) (v : Byte) :
    (s.setValue i v).pins[g] = (s.pins[g]).following b r v := by
  subst hi
  have hval : s.valueAt b.slot = r.value := by simp only [State.valueAt, hr]
  rw [State.setValue_eq, hval]
  split
  · next h => rw [PinState.following_same h.symm]
  · next h =>
    rw [State.change_pin]
    simp only [hb, State.boundPin_of_binding s hu hb, hr, Option.isSome_some, and_true, PinState.following, ne_eq, Ne.symm h,
      not_false_eq_true]

/-- From s to t, the record in slot i has been given the value v says, and the pin bound to it follows. -/
structure GivesAt (i : SlotNo) (v : Record → Byte) (s t : State) : Prop where
  record : t.slots[i].record = s.slots[i].record.map fun r => r.given (fun q => s.inService q i) (v r)
  pin : ∀ (g : Pin) (b : Binding) (r : Record), s.pins[g].binding = some b → b.slot = i → s.slots[i].record = some r →
    t.pins[g] = (s.pins[g]).following b r (v r)

theorem GivesAt.setValue {s : State} (hu : BoundOnce s) (i : SlotNo) (v : Byte) :
    GivesAt i (fun _ => v) s (s.setValue i v) :=
  ⟨by rw [State.setValue_record, if_pos rfl], fun _ _ _ hb hi hr => State.setValue_pin hu hr hb hi v⟩

/-- A slot that stands has been given the value it holds. -/
theorem StandsAt.gives {i : SlotNo} {v : Record → Byte} {s t : State} (h : StandsAt i s t)
    (hv : ∀ r, s.slots[i].record = some r → v r = r.value) : GivesAt i v s t := by
  refine ⟨?_, fun g b r hb hi hr => ?_⟩
  · rw [h.slot]
    cases hr : s.slots[i].record with
    | none => rfl
    | some r => rw [Option.map_some, Record.given_same (hv r hr)]
  · rw [h.pin g b hb hi, PinState.following_same (hv r hr)]

/-- A value given while, before and after, the slot stands. -/
theorem GivesAt.between {i : SlotNo} {v : Record → Byte} {s m m' t : State} (h : StandsAt i s m)
    (hserv : m.services = s.services) (g : GivesAt i v m m') (k : StandsAt i m' t) : GivesAt i v s t := by
  refine ⟨?_, fun x b r hb hi hr => ?_⟩
  · rw [k.slot, g.record, h.slot]
    simp only [State.inService, hserv]
  · have hx := h.pin x b hb hi
    have hm := g.pin x b r (by rw [hx]; exact hb) hi (by rw [h.slot]; exact hr)
    rw [k.pin x b (by rw [hm, PinState.following_binding, hx]; exact hb) hi, hm, hx]

theorem GivesAt.congr {i : SlotNo} {v w : Record → Byte} {s t : State} (h : GivesAt i v s t)
    (hv : ∀ r, s.slots[i].record = some r → w r = v r) : GivesAt i w s t := by
  refine ⟨?_, fun g b r hb hi hr => ?_⟩
  · rw [h.record]
    cases hr : s.slots[i].record with
    | none => rfl
    | some r => rw [Option.map_some, Option.map_some, hv r hr]
  · rw [h.pin g b r hb hi hr, hv r hr]

end Sys2Proof.Machine
end

section
/-! Teardown, stages 1 to 3: the service list is dropped, p's subscriptions on LIVE records are settled, and threshold,
pointers and token counter are reset (R152 to R154). -/

namespace Sys2Proof.Machine

open Sys2Proof

/-- What every operation of a fold keeps, the fold keeps. -/
theorem foldl_keeps {α β : Type} {op : State → α → State} {f : State → β} (h : ∀ s a, f (op s a) = f s) (l : List α) (s : State) :
    f (l.foldl op s) = f s := by
  induction l generalizing s with
  | nil => rfl
  | cons a l ih => rw [List.foldl_cons, ih, h]

/-! ## Stage 1 -/

/-- What is left of the DRAINING record r when port p's subscription leaves it: nothing, if it was the last (R19). -/
def Record.leftBy (r : Record) (p : Port) : Option Record :=
  if ({ r with subs := r.subs.set p none } : Record).noSubs = true then none else some { r with subs := r.subs.set p none }

theorem State.removeDraining_record {s : State} {i : SlotNo} {p : Port} {r : Record} (hr : s.slots[i].record = some r) :
    (s.removeDraining i p).slots[i].record = r.leftBy p := by
  have hsub : (s.updSub i p fun _ => none).slots[i].record = some { r with subs := r.subs.set p none } := by
    rw [State.updSub_record, if_pos rfl, hr, Option.map_some]
  have hno : (s.updSub i p fun _ => none).noSubsAt i = ({ r with subs := r.subs.set p none } : Record).noSubs := by
    simp only [State.noSubsAt, hsub]
  rw [State.removeDraining_eq, hno, Record.leftBy]
  split
  · rw [State.freeSlot_record, if_pos rfl]
  · exact hsub

@[simp] theorem State.removeDraining_pins (s : State) (i : SlotNo) (p : Port) : (s.removeDraining i p).pins = s.pins := by
  rw [State.removeDraining_eq]; split <;> simp
@[simp] theorem State.removeDraining_services (s : State) (i : SlotNo) (p : Port) :
    (s.removeDraining i p).services = s.services := by
  rw [State.removeDraining_eq]; split <;> simp
@[simp] theorem State.removeDraining_deadlines (s : State) (i : SlotNo) (p : Port) :
    (s.removeDraining i p).deadlines = s.deadlines := by
  rw [State.removeDraining_eq]; split <;> simp
@[simp] theorem State.removeDraining_domains (s : State) (i : SlotNo) (p : Port) :
    (s.removeDraining i p).domains = s.domains := by
  rw [State.removeDraining_eq]; split <;> simp
@[simp] theorem State.removeDraining_warnings (s : State) (i : SlotNo) (p : Port) :
    (s.removeDraining i p).warnings = s.warnings := by
  rw [State.removeDraining_eq]; split <;> simp

/-- The deadline timer that p's subscription on slot i has running, if it has one, is cancelled, and nothing else differs. -/
theorem State.cancelFor_frame (s : State) (p : Port) (i : SlotNo) :
    s.cancelFor p i = { s with deadlines := (s.cancelFor p i).deadlines } := by
  unfold State.cancelFor State.cancelDeadline
  split
  · rfl
  · split <;> rfl

/-- p's subscription u has its deadline timer at the priority k. -/
def timedAt (k : Prio) (u : Sub) : Bool := decide (u.cls ≠ 0 ∧ u.priority = k)

theorem deadlineLength_none (c : DeadlineClass) : deadlineLength c = none ↔ c = 0 := by
  revert c
  decide

/-- A deadline unit with its timer IDLE, if c. -/
def DeadlineUnit.stoppedIf (c : Bool) (x : DeadlineUnit) : DeadlineUnit := if c = true then { x with timer := none } else x

theorem DeadlineUnit.stoppedIf_eq {c : Bool} {C : Prop} [Decidable C] (h : c = true ↔ C) (x : DeadlineUnit) :
    x.stoppedIf c = if C then { x with timer := none } else x :=
  if_congr h rfl rfl

theorem State.cancelFor_get (s : State) (p q : Port) (i : SlotNo) (k : Prio) :
    (s.cancelFor p i).deadlines[q][k]
      = (s.deadlines[q][k]).stoppedIf (decide (q = p) && (s.subAt i p).any (timedAt k)) := by
  unfold State.cancelFor
  cases hu : s.subAt i p with
  | none =>
    rw [Option.any_none, Bool.and_false]
    rfl
  | some u =>
    rw [Option.any_some]
    dsimp only
    unfold State.cancelDeadline DeadlineUnit.stoppedIf timedAt
    cases hc : deadlineLength u.cls with
    | none => simp only [(deadlineLength_none _).mp hc, ne_eq, not_true_eq_false, false_and, decide_false, Bool.and_false,
        Bool.false_eq_true, if_false]
    | some n =>
      have hne : u.cls ≠ 0 := fun e => by rw [(deadlineLength_none _).mpr e] at hc; cases hc
      simp only [State.modDeadline_get, ne_eq, hne, not_false_eq_true, true_and, Bool.and_eq_true, decide_eq_true_eq,
        eq_comm (a := u.priority)]
      split
      · next h => rw [h.1, h.2]
      · rfl

section drop
variable (p : Port) (s : State) (e : Entry)

@[simp] theorem dropEntry_pins : (State.dropEntry p s e).pins = s.pins := by
  unfold State.dropEntry
  dsimp only
  rw [apply_ite State.pins, State.removeDraining_pins, ite_self, State.removeEntry, State.modService_pins,
    State.cancelFor_frame]

@[simp] theorem dropEntry_domains : (State.dropEntry p s e).domains = s.domains := by
  unfold State.dropEntry
  dsimp only
  rw [apply_ite State.domains, State.removeDraining_domains, ite_self, State.removeEntry, State.modService_domains,
    State.cancelFor_frame]

@[simp] theorem dropEntry_warnings : (State.dropEntry p s e).warnings = s.warnings := by
  unfold State.dropEntry
  dsimp only
  rw [apply_ite State.warnings, State.removeDraining_warnings, ite_self, State.removeEntry, State.modService_warnings,
    State.cancelFor_frame]

theorem dropEntry_deadlines : (State.dropEntry p s e).deadlines = (s.cancelFor p e.slot).deadlines := by
  unfold State.dropEntry
  dsimp only
  rw [apply_ite State.deadlines, State.removeDraining_deadlines, ite_self, State.removeEntry, State.modService_deadlines]

theorem dropEntry_services (q : Port) :
    (State.dropEntry p s e).services[q]
      = if q = p then { s.services[p] with list := s.services[p].list.filter fun f => f.slot ≠ e.slot } else s.services[q] := by
  have : (State.dropEntry p s e).services = (s.removeEntry p e.slot).services := by
    unfold State.dropEntry
    dsimp only
    rw [apply_ite State.services, State.removeDraining_services, ite_self, State.removeEntry, State.removeEntry,
      State.modService_services, State.modService_services, State.cancelFor_frame]
  rw [this, State.removeEntry, State.modService_get]

theorem dropEntry_acts : ActsOn (· = e.slot) s (State.dropEntry p s e) := by
  have h1 : ActsOn (fun _ => False) s ((s.cancelFor p e.slot).removeEntry p e.slot) := by
    rw [State.cancelFor_frame]
    exact .of_same rfl rfl rfl rfl
  unfold State.dropEntry
  dsimp only
  split
  · exact (h1.trans (.removeDraining _ e.slot p) fun _ hi => hi.elim).mono fun i hi => hi.elim False.elim id
  · exact h1.mono fun i hi => hi.elim

theorem dropEntry_record :
    (State.dropEntry p s e).slots[e.slot].record
      = s.slots[e.slot].record.bind fun r => if r.state = .draining then r.leftBy p else some r := by
  have h1 : ((s.cancelFor p e.slot).removeEntry p e.slot).slots = s.slots := by
    rw [State.cancelFor_frame]
    rfl
  unfold State.dropEntry
  dsimp only
  generalize (s.cancelFor p e.slot).removeEntry p e.slot = m at h1
  cases hr : s.slots[e.slot].record with
  | none =>
    rw [← h1] at hr
    rw [if_neg, hr]
    · rfl
    · rw [isDraining_iff]
      rintro ⟨r, hr', -⟩
      rw [hr] at hr'
      cases hr'
  | some r =>
    rw [← h1] at hr
    rw [Option.bind_some]
    by_cases hd : r.state = .draining
    · rw [if_pos ((isDraining_iff m e.slot).mpr ⟨r, hr, hd⟩), if_pos hd, State.removeDraining_record hr]
    · rw [if_neg hd, if_neg, hr]
      rw [isDraining_iff]
      rintro ⟨r', hr', hd'⟩
      rw [hr, Option.some.injEq] at hr'
      exact hd (hr' ▸ hd')

end drop

/-- The entries of a list stand on slots of their own. -/
def SlotsApart (l : List Entry) : Prop := l.Pairwise fun e f => e.slot ≠ f.slot

/-- Priorities that strictly decrease are those of subscriptions on separate slots (R70). -/
theorem ServiceListsOrdered.slotsApart {s : State} (h : ServiceListsOrdered s) (p : Port) : SlotsApart s.services[p].list :=
  (h p).2.imp fun hlt he => by rw [he] at hlt; exact Nat.lt_irrefl _ hlt

theorem SlotsApart.nodup {l : List Entry} (h : SlotsApart l) : l.Nodup := h.imp fun hne he => hne (congrArg _ he)

theorem SlotsApart.apart {l : List Entry} (h : SlotsApart l) {e f : Entry} (he : e ∈ l) (hf : f ∈ l) (hne : e ≠ f) :
    e.slot ≠ f.slot :=
  have : Std.Symm fun e f : Entry => e.slot ≠ f.slot := ⟨fun _ _ => Ne.symm⟩
  List.Pairwise.forall h he hf hne

section dropService
variable {s : State} {p : Port}

theorem dropService_acts (h : SlotsApart s.services[p].list) :
    ActsOn (fun i => s.inService p i = true) s (s.dropService p) := by
  refine ((ActsOn.foldl (Good := fun _ => True) (touch := fun e i => i = e.slot) s.services[p].list
    (fun t _ e _ => ⟨dropEntry_acts p t e, trivial⟩) (h.imp fun hne i he hf => hne (he.symm.trans hf)) s trivial).1).mono ?_
  rintro i ⟨e, he, rfl⟩
  exact List.any_eq_true.mpr ⟨e, he, decide_eq_true rfl⟩

@[simp] theorem dropService_pins : (s.dropService p).pins = s.pins := foldl_keeps (f := State.pins) (dropEntry_pins p) _ s
@[simp] theorem dropService_domains : (s.dropService p).domains = s.domains :=
  foldl_keeps (f := State.domains) (dropEntry_domains p) _ s
@[simp] theorem dropService_warnings : (s.dropService p).warnings = s.warnings :=
  foldl_keeps (f := State.warnings) (dropEntry_warnings p) _ s

/-- Stage 1 at one slot (R152). -/
theorem dropService_record (h : SlotsApart s.services[p].list) (i : SlotNo) :
    (s.dropService p).slots[i].record
      = s.slots[i].record.bind fun r => if r.state = .draining ∧ s.inService p i = true then r.leftBy p else some r := by
  by_cases hi : s.inService p i = true
  · obtain ⟨e, he, hes⟩ := List.any_eq_true.mp hi
    obtain rfl : e.slot = i := of_decide_eq_true hes
    have hothers : ∀ (t : State), ∀ a ∈ s.services[p].list, ∀ b : Entry, b ≠ a → b ∈ s.services[p].list →
        (State.dropEntry p t a).slots[b.slot] = t.slots[b.slot] := fun t a ha b hb hmem =>
      (dropEntry_acts p t a).slot b.slot (h.apart hmem ha hb)
    obtain ⟨m, -, h1, h2⟩ := (foldl_concerns (Good := fun _ => True)
      (R := fun (b : Entry) (t u : State) => b ∈ s.services[p].list → u.slots[b.slot] = t.slots[b.slot]) (fun _ _ _ => rfl)
      (fun _ _ _ _ h k he => (k he).trans (h he)) s.services[p].list h.nodup
      (fun t _ a ha => ⟨trivial, hothers t a ha⟩) s trivial).2 e he
    have hrec := dropEntry_record p m e
    rw [h1 he, ← h2 he] at hrec
    simp only [hi, and_true]
    exact hrec
  · simp only [Bool.not_eq_true] at hi
    rw [(dropService_acts h).slot i (by rw [hi]; exact Bool.noConfusion)]
    simp only [hi, Bool.false_eq_true, and_false, if_false, Option.bind_fun_some]

theorem dropEntries_services (l : List Entry) (s : State) (q : Port) :
    (l.foldl (State.dropEntry p) s).services[q]
      = if q = p then { s.services[p] with list := s.services[p].list.filter fun f => l.all fun e => f.slot ≠ e.slot }
        else s.services[q] := by
  induction l generalizing s with
  | nil =>
    simp only [List.foldl_nil, List.all_nil, List.filter_true]
    split
    · next hq => rw [hq]
    · rfl
  | cons e l ih =>
    rw [List.foldl_cons, ih, dropEntry_services, dropEntry_services]
    split
    · simp only [if_true, List.filter_filter, List.all_cons, Bool.and_comm]
    · rfl

/-- Stage 1 empties p's list (R152). -/
theorem dropService_services (q : Port) :
    (s.dropService p).services[q] = if q = p then { s.services[p] with list := [] } else s.services[q] := by
  have hnone : (s.services[p].list.filter fun f => s.services[p].list.all fun e => f.slot ≠ e.slot) = [] :=
    List.filter_eq_nil_iff.mpr fun f hf hall => by simpa using List.all_eq_true.mp hall f hf
  rw [State.dropService, dropEntries_services, hnone]

theorem dropEntries_deadlines (l : List Entry) (hl : SlotsApart l) (s : State) (q : Port) (k : Prio) :
    (l.foldl (State.dropEntry p) s).deadlines[q][k]
      = (s.deadlines[q][k]).stoppedIf (decide (q = p) && l.any fun e => (s.subAt e.slot p).any (timedAt k)) := by
  induction l generalizing s with
  | nil =>
    rw [List.any_nil, Bool.and_false]
    rfl
  | cons e l ih =>
    obtain ⟨he, hl⟩ := List.pairwise_cons.mp hl
    have hsub : (l.any fun f => ((State.dropEntry p s e).subAt f.slot p).any (timedAt k))
        = l.any fun f => (s.subAt f.slot p).any (timedAt k) :=
      Bool.eq_iff_iff.mpr (by
        simp only [List.any_eq_true]
        exact exists_congr fun f => and_congr_right fun hf => by rw [(dropEntry_acts p s e).subAt (he f hf).symm])
    rw [List.foldl_cons, ih hl, hsub, dropEntry_deadlines, State.cancelFor_get, List.any_cons, Bool.and_or_distrib_left]
    generalize (decide (q = p) && (s.subAt e.slot p).any (timedAt k)) = c
    generalize (decide (q = p) && l.any fun f => (s.subAt f.slot p).any (timedAt k)) = c'
    cases c <;> cases c' <;> rfl

end dropService

/-! ## Stages 2 and 3 -/

/-- The record r after p's subscription on it is settled, if it is LIVE: it stands with KEEP alone, evaluated if HELD (R153). -/
def Record.settledFor (p : Port) (r : Record) : Record :=
  if r.state = .live then
    { r with subs := r.subs.set p ((r.subs[p].filter (·.keep)).map fun u => u.settled r.value) }
  else r

/-- The evaluation of the model is the one of the statements. -/
theorem Sub.evaluated_eq (u : Sub) (v : Byte) : u.evaluated v = u.settled v := by
  unfold Sub.evaluated Sub.settled
  cases u.mode <;> simp

section settle
variable (p : Port) (s : State) (i : SlotNo)

/-- Settling p's subscription on one slot alters it, or nothing. -/
theorem settleSub_cases : State.settleSub p s i = s ∨ ∃ f, State.settleSub p s i = s.updSub i p f := by
  unfold State.settleSub
  split
  · split
    · exact .inl rfl
    · split
      · exact .inr ⟨_, rfl⟩
      · exact .inr ⟨_, rfl⟩
  · exact .inl rfl

theorem settleSub_acts : ActsOn (· = i) s (State.settleSub p s i) := by
  rcases settleSub_cases p s i with h | ⟨f, h⟩
  · rw [h]; exact .refl _ s
  · rw [h]; exact .updSub s i p f

/-- A part that altering a subscription leaves, settling leaves. -/
theorem settleSub_keeps {β : Type} (f : State → β) (hf : ∀ s i g, f (s.updSub i p g) = f s) : f (State.settleSub p s i) = f s := by
  rcases settleSub_cases p s i with h | ⟨g, h⟩
  · rw [h]
  · rw [h, hf]

theorem settleSub_record :
    (State.settleSub p s i).slots[i].record = s.slots[i].record.map (Record.settledFor p) := by
  unfold State.settleSub
  cases hr : s.slots[i].record with
  | none =>
    have hl : s.isLive i = false := by simp only [State.isLive, hr]
    rw [hl]
    exact hr
  | some r =>
    rw [Option.map_some, Record.settledFor]
    by_cases hl : r.state = .live
    · have hsub : s.subAt i p = r.subs[p] := by simp only [State.subAt, hr]
      have hval : s.valueAt i = r.value := by simp only [State.valueAt, hr]
      rw [if_pos ((isLive_iff s i).mpr ⟨r, hr, hl⟩), if_pos hl, hsub]
      cases hu : r.subs[p] with
      | none =>
        have hsame : r.subs.set p none = r.subs := by rw [← hu]; exact set_same r.subs p
        simp only [Option.filter_none, Option.map_none, hsame, hr]
      | some u =>
        cases hk : u.keep with
        | true =>
          simp only [hk, if_true, State.heldEvaluation, State.updSub_record, hr, Option.map_some, hu, hval,
            Sub.evaluated_eq, Option.filter_some]
        | false =>
          simp only [hk, Bool.false_eq_true, if_false, if_true, State.updSub_record, hr, Option.map_some, Option.filter_some,
            Option.map_none]
    · have hnl : ¬ s.isLive i = true := by
        rw [isLive_iff]
        rintro ⟨r', hr', hl'⟩
        rw [hr, Option.some.injEq] at hr'
        exact hl (hr' ▸ hl')
      rw [if_neg hnl, if_neg hl, hr]

theorem settleSubs_acts : ActsOn (fun _ => True) s (s.settleSubs p) :=
  ((ActsOn.foldl (Good := fun _ => True) (touch := fun i j => j = i) (List.finRange 128)
    (fun t _ j _ => ⟨settleSub_acts p t j, trivial⟩)
    ((List.nodup_finRange 128).imp fun hne _ hj hk => hne (hj.symm.trans hk)) s trivial).1).mono fun _ _ => trivial

/-- Stage 2 at one slot (R153). -/
theorem settleSubs_record :
    (s.settleSubs p).slots[i].record = s.slots[i].record.map (Record.settledFor p) := by
  obtain ⟨m, -, h1, h2⟩ := (foldl_concerns (Good := fun _ => True) (op := State.settleSub p)
    (R := fun (j : SlotNo) (t u : State) => u.slots[j] = t.slots[j]) (fun _ _ => rfl) (fun _ _ _ _ h k => k.trans h)
    (List.finRange 128) (List.nodup_finRange 128)
    (fun t _ _ _ => ⟨trivial, fun k hk => (settleSub_acts p t _).slot k hk⟩) s trivial).2 i (List.mem_finRange i)
  rw [State.settleSubs, h2, settleSub_record, h1]

theorem settleSubs_keeps {β : Type} (f : State → β) (hf : ∀ s i g, f (s.updSub i p g) = f s) : f (s.settleSubs p) = f s :=
  foldl_keeps (fun t j => settleSub_keeps p t j f hf) _ s

@[simp] theorem settleSubs_pins : (s.settleSubs p).pins = s.pins := settleSubs_keeps p s _ fun _ _ _ => by simp
@[simp] theorem settleSubs_services : (s.settleSubs p).services = s.services := settleSubs_keeps p s _ fun _ _ _ => by simp
@[simp] theorem settleSubs_deadlines : (s.settleSubs p).deadlines = s.deadlines := settleSubs_keeps p s _ fun _ _ _ => by simp
@[simp] theorem settleSubs_domains : (s.settleSubs p).domains = s.domains := settleSubs_keeps p s _ fun _ _ _ => by simp
@[simp] theorem settleSubs_warnings : (s.settleSubs p).warnings = s.warnings := settleSubs_keeps p s _ fun _ _ _ => by simp

end settle

end Sys2Proof.Machine
end

section
/-! Teardown, stage 4: p leaves every awaited set, and the warnings it alone was awaited in end (R155, R100 to R103). -/

namespace Sys2Proof.Machine

open Sys2Proof

/-- Slot i holds a record of domain d. -/
def InDomain (s : State) (d : Dom) (i : SlotNo) : Prop := ∃ r, s.slots[i].record = some r ∧ r.domain = some d

theorem InDomain.unique {s : State} {d e : Dom} {i : SlotNo} (h : InDomain s d i) (k : InDomain s e i) : d = e := by
  obtain ⟨r, hr, hd⟩ := h
  obtain ⟨r', hr', he⟩ := k
  rw [hr, Option.some.injEq] at hr'
  rw [← hr', hd, Option.some.injEq] at he
  exact he

theorem Steady.inDomain {s t : State} (h : Steady s t) {d : Dom} {i : SlotNo} : InDomain t d i ↔ InDomain s d i := by
  constructor
  · rintro ⟨r, hr, hd⟩
    obtain ⟨r', hr', hf⟩ := h.record_of hr
    exact ⟨r', hr', (congrArg Record.domain hf).symm.trans hd⟩
  · rintro ⟨r, hr, hd⟩
    obtain ⟨r', hr', hf⟩ := h.record hr
    exact ⟨r', hr', (congrArg Record.domain hf).trans hd⟩

/-- No system record is in a domain (R7). -/
def SystemsApart (s : State) : Prop := ∀ (d : Dom) (i : SlotNo), InDomain s d i → 20 ≤ i.val

theorem Steady.systemsApart {s t : State} (h : Steady s t) (k : SystemsApart s) : SystemsApart t :=
  fun d i hi => k d i (h.inDomain.mp hi)

theorem SystemsHold.systemsApart {s : State} (h : SystemsHold s) : SystemsApart s := by
  rintro d i ⟨r, hr, hd⟩
  by_contra hi
  obtain ⟨r', hr', -, -, -, hd', -⟩ := h.record (Nat.lt_of_not_le hi)
  rw [hr, Option.some.injEq] at hr'
  rw [← hr', hd] at hd'
  cases hd'

/-- s0 is a state with its pins bound as they should be, and s one that differs in values, subscriptions and drivers alone. -/
structure Onward (s0 s : State) : Prop where
  steady : Steady s0 s
  services : s.services = s0.services
  boundOnce : BoundOnce s
  apart : SystemsApart s

theorem Onward.step {s0 s t : State} (h : Onward s0 s) (k : Steady s t) (hs : t.services = s.services) : Onward s0 t :=
  ⟨h.steady.trans k, hs.trans h.services,
    fun g g' b hb c hc => h.boundOnce g g' b (by rw [← k.binding]; exact hb) c (by rw [← k.binding]; exact hc),
    k.systemsApart h.apart⟩

/-! ## The sweep -/

/-- The value the sweep of d leaves in the record r (R103). -/
def Record.sweptTo (d : Dom) (r : Record) : Byte := (r.sweepTarget d).getD r.value

theorem Record.sweptTo_other {d : Dom} {r : Record} (h : r.domain ≠ some d) : r.sweptTo d = r.value := by
  unfold Record.sweptTo Record.sweepTarget
  rw [if_neg fun c => h c.2.1]
  rfl

/-- The sweep of d at one slot, without the count: the record is given its value. -/
def State.sweptAt (d : Dom) (s : State) (i : SlotNo) : State :=
  match s.slots[i].record with
  | none => s
  | some r => s.setValue i (r.sweptTo d)

theorem sweepSlot_fst (d : Dom) (acc : State × Nat) (i : SlotNo) :
    (State.sweepSlot d acc i).1 = acc.1.sweptAt d i := by
  unfold State.sweepSlot State.sweptAt
  cases hr : acc.1.slots[i].record with
  | none => rfl
  | some r =>
    have hval : acc.1.valueAt i = r.value := by simp only [State.valueAt, hr]
    dsimp only
    rw [Record.sweptTo]
    cases hv : r.sweepTarget d with
    | none => rw [State.setValue_eq, hval]; exact (if_pos rfl).symm
    | some v =>
      rw [State.setValue_eq, hval]
      exact (if_neg (Record.sweepTarget_some hv).2.2.2.2.2).symm

theorem sweep_fst (d : Dom) (s : State) : (s.sweep d).1 = userSlots.foldl (State.sweptAt d) s := by
  have key : ∀ (l : List SlotNo) (acc : State × Nat), (l.foldl (State.sweepSlot d) acc).1 = l.foldl (State.sweptAt d) acc.1 := by
    intro l
    induction l with
    | nil => exact fun _ => rfl
    | cons i l ih => exact fun acc => by rw [List.foldl_cons, List.foldl_cons, ih, sweepSlot_fst]
  exact key userSlots (s, 0)

theorem Steady.sweptAt (d : Dom) (s : State) (i : SlotNo) : Steady s (s.sweptAt d i) := by
  unfold State.sweptAt
  split
  · exact .refl s
  · exact .given s i _

/-- A part that giving a value leaves, the sweep at one slot leaves. -/
theorem sweptAt_keeps {β : Type} (f : State → β) (hf : ∀ s i v, f (s.setValue i v) = f s) (d : Dom) (s : State) (i : SlotNo) :
    f (s.sweptAt d i) = f s := by
  unfold State.sweptAt
  split
  · rfl
  · exact hf s i _

theorem sweep_keeps {β : Type} (f : State → β) (hf : ∀ s i v, f (s.setValue i v) = f s) (d : Dom) (s : State) :
    f (s.sweep d).1 = f s := by
  rw [sweep_fst]
  exact foldl_keeps (sweptAt_keeps f hf d) _ s

theorem Onward.sweptAt {s0 s : State} (h : Onward s0 s) (d : Dom) (i : SlotNo) : Onward s0 (s.sweptAt d i) :=
  h.step (.sweptAt d s i) (sweptAt_keeps _ (by simp) d s i)

theorem sweptAt_acts (d : Dom) (s : State) (i : SlotNo) : ActsOn (fun j => j = i ∧ InDomain s d i) s (s.sweptAt d i) := by
  unfold State.sweptAt
  cases hr : s.slots[i].record with
  | none => exact .refl _ s
  | some r =>
    dsimp only
    by_cases hd : r.domain = some d
    · exact (ActsOn.setValue s i _).mono fun j hj => ⟨hj, r, hr, hd⟩
    · have hval : s.valueAt i = r.value := by simp only [State.valueAt, hr]
      rw [Record.sweptTo_other hd, State.setValue_eq, hval, if_pos rfl]
      exact .refl _ s

theorem sweptAt_gives (d : Dom) {s : State} (hu : BoundOnce s) (i : SlotNo) :
    GivesAt i (Record.sweptTo d) s (s.sweptAt d i) := by
  unfold State.sweptAt
  cases hr : s.slots[i].record with
  | none => exact (StandsAt.refl i s).gives fun r hr' => by rw [hr] at hr'; cases hr'
  | some r =>
    exact (GivesAt.setValue hu i _).congr fun r' hr' => by rw [hr, Option.some.injEq] at hr'; rw [hr']

theorem sweep_acts (d : Dom) {s : State} (hu : Onward s s) : ActsOn (InDomain s d) s (s.sweep d).1 := by
  rw [sweep_fst]
  refine ((ActsOn.foldl (Good := Onward s) (touch := fun i j => j = i ∧ InDomain s d i) userSlots (fun t ht i _ => ⟨?_, ht.sweptAt d i⟩)
    (((List.nodup_finRange 128).filter _).imp fun hne j hj hk => hne (hj.1.symm.trans hk.1)) s hu).1).mono ?_
  · exact (sweptAt_acts d t i).mono fun j hj => ⟨hj.1, ht.steady.inDomain.mp hj.2⟩
  · rintro i ⟨j, -, rfl, hi⟩
    exact hi

theorem sweep_gives (d : Dom) {s : State} (hu : Onward s s) (i : SlotNo) :
    GivesAt i (Record.sweptTo d) s (s.sweep d).1 := by
  by_cases hi : InDomain s d i
  · have hfold := (foldl_concerns (Good := Onward s) (op := State.sweptAt d) (R := StandsAt) StandsAt.refl
      (fun _ _ _ _ => StandsAt.trans) userSlots ((List.nodup_finRange 128).filter _)
      (fun t ht j _ => ⟨ht.sweptAt d j, fun k hk => (sweptAt_acts d t j).standsAt fun c => hk c.1⟩) s hu).2 i
      (mem_userSlots.mpr (hu.apart d i hi))
    obtain ⟨m, hm, h1, h2⟩ := hfold
    rw [sweep_fst]
    exact GivesAt.between h1 hm.services (sweptAt_gives d hm.boundOnce i) h2
  · exact ((sweep_acts d hu).standsAt hi).gives fun r hr => Record.sweptTo_other fun c => hi ⟨r, hr, c⟩

/-! ## The end of a warning -/

/-- The state the sweep of R101 starts from: the timer is cancelled and nobody is awaited. -/
def State.sweepStart (s : State) (d : Dom) : State :=
  (s.cancelWarningTimer d).modDomain d fun x => { x with awaited := Vector.replicate 6 false }

theorem sweepStart_slots (s : State) (d : Dom) : (s.sweepStart d).slots = s.slots := rfl
theorem sweepStart_pins (s : State) (d : Dom) : (s.sweepStart d).pins = s.pins := rfl
theorem sweepStart_services (s : State) (d : Dom) : (s.sweepStart d).services = s.services := rfl
theorem sweepStart_deadlines (s : State) (d : Dom) : (s.sweepStart d).deadlines = s.deadlines := rfl

/-- The domain d swept and HELD, with no timeout in force. -/
def State.settledHeld (s : State) (d : Dom) : State :=
  (s.modDomain d fun x => { x with timeout := 0#8 }).modDomain d fun x => { x with state := .held }

theorem settledHeld_slots (s : State) (d : Dom) : (s.settledHeld d).slots = s.slots := rfl
theorem settledHeld_pins (s : State) (d : Dom) : (s.settledHeld d).pins = s.pins := rfl
theorem settledHeld_services (s : State) (d : Dom) : (s.settledHeld d).services = s.services := rfl
theorem settledHeld_deadlines (s : State) (d : Dom) : (s.settledHeld d).deadlines = s.deadlines := rfl
theorem settledHeld_warnings (s : State) (d : Dom) : (s.settledHeld d).warnings = s.warnings := rfl

theorem settledHeld_domains (s : State) (d e : Dom) :
    (s.settledHeld d).domains[e]
      = if e = d then { s.domains[d] with state := .held, timeout := 0#8 } else s.domains[e] := by
  unfold State.settledHeld
  simp only [State.modDomain_get, if_true]
  split <;> rfl

/-- The stages of R101 before the DOMAIN record is given 2. -/
def State.warningSwept (s : State) (d : Dom) : State := ((s.sweepStart d).sweep d).1.settledHeld d

theorem endWarning_fst (s : State) (d : Dom) :
    (s.endWarning d).1 = (s.warningSwept d).setValue (domainSlot d) (domStateByte .held) := by
  unfold State.endWarning State.enterHeld State.warningSwept State.settledHeld State.sweepStart
  dsimp only

/-- What a warning's end touches: the records of the domain and its DOMAIN record. -/
def WarningTouches (s : State) (d : Dom) (i : SlotNo) : Prop := i = domainSlot d ∨ InDomain s d i

/-- The value a warning's end leaves in the record r of slot i (R101, R103). -/
def Record.endedTo (d : Dom) (i : SlotNo) (r : Record) : Byte := if i = domainSlot d then 2#8 else r.sweptTo d

section endWarning
variable {s : State} (d : Dom)

theorem Onward.sweepStart (hu : Onward s s) : Onward (s.sweepStart d) (s.sweepStart d) :=
  ⟨.refl _, rfl, hu.boundOnce, hu.apart⟩

theorem warningSwept_acts (hu : Onward s s) : ActsOn (InDomain s d) s (s.warningSwept d) := by
  have h1 : ActsOn (fun _ => False) s (s.sweepStart d) := .of_same rfl rfl rfl rfl
  have h2 := sweep_acts d (hu.sweepStart d)
  unfold State.warningSwept
  generalize ((s.sweepStart d).sweep d).1 = m at h2
  have h3 : ActsOn (fun _ => False) m (m.settledHeld d) := .of_same rfl rfl rfl rfl
  refine ((h1.trans h2 fun _ hi => hi.elim).trans h3 fun _ _ => id).mono fun i hi => ?_
  rcases hi with (hi | hi) | hi
  · exact hi.elim
  · exact hi
  · exact hi.elim

theorem warningSwept_gives (hu : Onward s s) (i : SlotNo) : GivesAt i (Record.sweptTo d) s (s.warningSwept d) := by
  have h1 : StandsAt i s (s.sweepStart d) := .of_eq (sweepStart_slots s d) (sweepStart_pins s d)
  exact GivesAt.between h1 (sweepStart_services s d) (sweep_gives d (hu.sweepStart d) i)
    (.of_eq (settledHeld_slots _ d) (settledHeld_pins _ d))

theorem warningSwept_services (s : State) : (s.warningSwept d).services = s.services := by
  rw [State.warningSwept, settledHeld_services, sweep_keeps State.services (by simp) d, sweepStart_services]

theorem warningSwept_deadlines (s : State) : (s.warningSwept d).deadlines = s.deadlines := by
  rw [State.warningSwept, settledHeld_deadlines, sweep_keeps State.deadlines (by simp) d, sweepStart_deadlines]

theorem warningSwept_domains (s : State) (e : Dom) :
    (s.warningSwept d).domains[e]
      = if e = d then
          { state := .held, awaited := Vector.replicate 6 false, serial := s.domains[d].serial, timeout := 0#8 }
        else s.domains[e] := by
  rw [State.warningSwept, settledHeld_domains]
  simp only [sweep_keeps State.domains (by simp) d, State.sweepStart, State.modDomain_get, if_true]
  split <;> rfl

theorem warningSwept_warnings (s : State) (e : Dom) :
    (s.warningSwept d).warnings[e] = if e = d then { s.warnings[d] with timer := none } else s.warnings[e] := by
  simp only [State.warningSwept, settledHeld_warnings, sweep_keeps State.warnings (by simp) d, State.sweepStart,
    State.modDomain_warnings, State.cancelWarningTimer, State.modWarning_get]

theorem Steady.foldl {α : Type} {op : State → α → State} (h : ∀ s a, Steady s (op s a)) (l : List α) (s : State) :
    Steady s (l.foldl op s) := by
  induction l generalizing s with
  | nil => exact .refl s
  | cons a l ih => exact (h s a).trans (ih (op s a))

theorem Steady.warningSwept (s : State) : Steady s (s.warningSwept d) := by
  unfold State.warningSwept State.settledHeld
  refine Steady.trans ?_ ((Steady.modDomain _ d _).trans (.modDomain _ d _))
  rw [sweep_fst]
  exact ((Stands.cancelWarningTimer s d).steady.trans (.modDomain _ d _)).trans (.foldl (.sweptAt d) userSlots _)

theorem Steady.endWarning (s : State) : Steady s (s.endWarning d).1 := by
  rw [endWarning_fst]
  exact (Steady.warningSwept d s).trans (.given _ _ _)

theorem endWarning_acts (hu : Onward s s) : ActsOn (WarningTouches s d) s (s.endWarning d).1 := by
  rw [endWarning_fst]
  refine ((warningSwept_acts d hu).trans (.setValue _ _ _) fun i hi he => ?_).mono fun i hi => hi.symm
  have := hu.apart d i hi
  rw [he, domainSlot_val] at this
  omega

theorem endWarning_gives (hu : Onward s s) (i : SlotNo) : GivesAt i (Record.endedTo d i) s (s.endWarning d).1 := by
  rw [endWarning_fst]
  have hacts := warningSwept_acts d hu
  by_cases hi : i = domainSlot d
  · subst hi
    have hnot : ¬ InDomain s d (domainSlot d) := fun c => by
      have := hu.apart d _ c
      rw [domainSlot_val] at this
      omega
    refine (GivesAt.between (hacts.standsAt hnot) (warningSwept_services d s)
      (.setValue (hacts.boundOnce hu.boundOnce) _ _) (.refl _ _)).congr fun r _ => if_pos rfl
  · exact (GivesAt.between (.refl i s) rfl (warningSwept_gives d hu i) ((ActsOn.setValue _ _ _).standsAt hi)).congr
      fun r _ => if_neg hi

end endWarning

/-! ## Departures -/

section depart
variable (s : State) (d : Dom) (p : Port)

theorem lastAwaited_iff : s.lastAwaited d p = true ↔ s.domains[d].state = .warning ∧ s.domains[d].awaited[p] = true
    ∧ ∀ q : Port, q ≠ p → s.domains[d].awaited[q] = false := decide_eq_true_iff

/-- Departure by its outcome: with the last one awaited the warning ends (R100). -/
theorem depart_eq :
    s.depart d p =
      if s.lastAwaited d p = true then
        ((s.modDomain d fun x => { x with awaited := x.awaited.set p false }).endWarning d).1
      else if s.domains[d].state = .warning ∧ s.domains[d].awaited[p] = true then
        s.modDomain d fun x => { x with awaited := x.awaited.set p false }
      else s := by
  unfold State.depart
  by_cases h : s.domains[d].state = .warning ∧ s.domains[d].awaited[p] = true
  · have hnone : (s.modDomain d fun x => { x with awaited := x.awaited.set p false }).domains[d].noneAwaited = true
        ↔ s.lastAwaited d p = true := by
      rw [lastAwaited_iff, State.modDomain_get, if_pos rfl]
      simp only [DomainEntry.noneAwaited, List.all_eq_true, List.mem_finRange, true_implies, set_get, Bool.not_eq_true', h,
        true_and]
      refine forall_congr' fun q => ?_
      by_cases hq : q = p <;> simp [hq]
    rw [if_pos h, if_pos h]
    dsimp only
    split
    · next hc => rw [if_pos (hnone.mp hc)]
    · next hc => rw [if_neg fun c => hc (hnone.mpr c)]
  · rw [if_neg h, if_neg h, if_neg fun c => h ⟨((lastAwaited_iff s d p).mp c).1, ((lastAwaited_iff s d p).mp c).2.1⟩]

/-- A part that neither the end of a warning nor a departure from an awaited set touches. -/
theorem depart_keeps {β : Type} (f : State → β) (h1 : ∀ (s : State) (g : DomainEntry → DomainEntry), f (s.modDomain d g) = f s)
    (h2 : ∀ s : State, f (s.endWarning d).1 = f s) : f (s.depart d p) = f s := by
  rw [depart_eq]
  split
  · rw [h2, h1]
  · split
    · exact h1 s _
    · rfl

theorem depart_services : (s.depart d p).services = s.services :=
  depart_keeps s d p State.services (fun _ _ => rfl) fun s => by
    rw [endWarning_fst, State.setValue_services, warningSwept_services]

theorem depart_deadlines : (s.depart d p).deadlines = s.deadlines :=
  depart_keeps s d p State.deadlines (fun _ _ => rfl) fun s => by
    rw [endWarning_fst, State.setValue_deadlines, warningSwept_deadlines]

theorem Steady.depart : Steady s (s.depart d p) := by
  rw [depart_eq]
  split
  · exact (Steady.modDomain s d _).trans (.endWarning d _)
  · split
    · exact .modDomain s d _
    · exact .refl s

/-- What the departure leaves of each domain's entry and warning timer. -/
theorem depart_domain (e : Dom) :
    ((s.depart d p).domains[e], (s.depart d p).warnings[e])
      = if e = d then s.domainTornDown p d else (s.domains[e], s.warnings[e]) := by
  rw [depart_eq]
  unfold State.domainTornDown
  by_cases hl : s.lastAwaited d p = true
  · rw [if_pos hl, if_pos hl, endWarning_fst]
    simp only [State.setValue_domains, State.setValue_warnings, warningSwept_domains, warningSwept_warnings,
      State.modDomain_get, State.modDomain_warnings, if_true]
    split <;> rfl
  · rw [if_neg hl, if_neg hl]
    by_cases hw : s.domains[d].state = .warning
    · by_cases ha : s.domains[d].awaited[p] = true
      · rw [if_pos ⟨hw, ha⟩, if_pos hw]
        simp only [State.modDomain_get, State.modDomain_warnings]
        split
        · next he => rw [he]
        · rfl
      · have hset : s.domains[d].awaited.set p false = s.domains[d].awaited := by
          rw [← Bool.eq_false_of_not_eq_true ha]
          exact set_same _ p
        rw [if_neg fun c => ha c.2, if_pos hw, hset]
        split
        · next he => rw [he]
        · rfl
    · rw [if_neg fun c => hw c.1, if_neg hw]
      split
      · next he => rw [he]
      · rfl

end depart

/-- The value the departure of p from d leaves in the record r of slot i. -/
def State.departedTo (s : State) (p : Port) (d : Dom) (i : SlotNo) (r : Record) : Byte :=
  if s.lastAwaited d p = true then r.endedTo d i else r.value

section depart
variable {s : State} (d : Dom) (p : Port)

theorem Onward.onModDomain (hu : Onward s s) (f : DomainEntry → DomainEntry) : Onward (s.modDomain d f) (s.modDomain d f) :=
  ⟨.refl _, rfl, hu.boundOnce, hu.apart⟩

theorem depart_acts (hu : Onward s s) : ActsOn (WarningTouches s d) s (s.depart d p) := by
  rw [depart_eq]
  have hmod : ActsOn (fun _ => False) s (s.modDomain d fun x => { x with awaited := x.awaited.set p false }) :=
    .of_same rfl rfl rfl rfl
  split
  · exact (hmod.trans (endWarning_acts d (hu.onModDomain d _)) fun _ hi => hi.elim).mono fun i hi => hi.elim False.elim id
  · split
    · exact hmod.mono fun i hi => hi.elim
    · exact .refl _ s

theorem depart_gives (hu : Onward s s) (i : SlotNo) : GivesAt i (s.departedTo p d i) s (s.depart d p) := by
  have hmod (i : SlotNo) : StandsAt i s (s.modDomain d fun x => { x with awaited := x.awaited.set p false }) :=
    .of_eq (State.modDomain_slots s d _) (State.modDomain_pins s d _)
  rw [depart_eq]
  unfold State.departedTo
  split
  · exact GivesAt.between (hmod i) rfl (endWarning_gives d (hu.onModDomain d _) i) (.refl i _)
  · split
    · exact (hmod i).gives fun _ _ => rfl
    · exact (StandsAt.refl i s).gives fun _ _ => rfl

end depart

/-! ## Stage 4 -/

/-- The value stage 4 of the teardown of p leaves in the record r of slot i: 2 in the DOMAIN record of a domain whose warning
ends, the default in a record of such a domain that its sweep reaches. -/
def State.sweptValue (s : State) (p : Port) (i : SlotNo) (r : Record) : Byte :=
  if (domainOfSlot i).any (fun d => s.lastAwaited d p) = true then 2#8
  else
    match r.domain with
    | some d => if s.lastAwaited d p = true then r.sweptTo d else r.value
    | none => r.value

theorem domainOfSlot_domainSlot (d : Dom) : domainOfSlot (domainSlot d) = some d := by
  revert d
  decide

theorem domainOfSlot_some {i : SlotNo} {d : Dom} (h : domainOfSlot i = some d) : i = domainSlot d := by
  unfold domainOfSlot at h
  split at h
  · next hi =>
    rw [Option.some.injEq] at h
    subst h
    apply Fin.ext
    simp only [domainSlot]
    omega
  · cases h

theorem domainOfSlot_user {i : SlotNo} (h : 20 ≤ i.val) : domainOfSlot i = none := by
  unfold domainOfSlot
  rw [dif_neg fun c => absurd c.2 (Nat.not_lt.mpr h)]

theorem WarningTouches.unique {s : State} (h : SystemsApart s) {d e : Dom} {i : SlotNo} (hd : WarningTouches s d i)
    (he : WarningTouches s e i) : d = e := by
  have hsys : ∀ d e, i = domainSlot d → ¬ InDomain s e i := fun d e hi hin => by
    have := h e i hin
    rw [hi, domainSlot_val] at this
    omega
  rcases hd with hd | hd
  · rcases he with he | he
    · have := domainOfSlot_domainSlot d
      rw [← hd, he, domainOfSlot_domainSlot, Option.some.injEq] at this
      exact this.symm
    · exact absurd he (hsys d e hd)
  · rcases he with he | he
    · exact absurd hd (hsys e d he)
    · exact hd.unique he

section leave
variable {s : State} (p : Port)

/-- From s to t, the domain d stands, and so does every slot its warning's end would touch. -/
structure DomainStands (s0 : State) (d : Dom) (s t : State) : Prop where
  domain : t.domains[d] = s.domains[d]
  warning : t.warnings[d] = s.warnings[d]
  slots : ∀ i, WarningTouches s0 d i → StandsAt i s t

theorem leaveAwaited_step {s0 s : State} (h : Onward s0 s) (d : Dom) :
    Onward s0 (s.depart d p) ∧ ∀ e, e ≠ d → DomainStands s0 e s (s.depart d p) := by
  have hs : Onward s s := ⟨.refl s, rfl, h.boundOnce, h.apart⟩
  refine ⟨h.step (.depart s d p) (depart_services s d p), fun e he => ?_⟩
  have hdom := depart_domain s d p e
  rw [if_neg he, Prod.mk.injEq] at hdom
  refine ⟨hdom.1, hdom.2, fun i hi => (depart_acts d p hs).standsAt fun hd => he ?_⟩
  have hi' : WarningTouches s e i := hi.imp_right h.steady.inDomain.mpr
  exact hi'.unique h.apart hd

/-- Stage 4 at what concerns one domain: as its own departure leaves it. -/
theorem leaveAwaited_at (hu : Onward s s) (d : Dom) :
    ∃ m, Onward s m ∧ DomainStands s d s m ∧ DomainStands s d (m.depart d p) (s.leaveAwaited p) :=
  (foldl_concerns (Good := Onward s) (op := fun t d => t.depart d p) (R := DomainStands s)
    (fun _ _ => ⟨rfl, rfl, fun i _ => .refl i _⟩)
    (fun _ _ _ _ h k => ⟨k.domain.trans h.domain, k.warning.trans h.warning, fun i hi => (h.slots i hi).trans (k.slots i hi)⟩)
    (List.finRange 8) (List.nodup_finRange 8) (fun _ ht d _ => leaveAwaited_step p ht d) s hu).2 d (List.mem_finRange d)

theorem leaveAwaited_acts_onward (hu : Onward s s) :
    ActsOn (fun i => ∃ d ∈ List.finRange 8, WarningTouches s d i) s (s.leaveAwaited p) ∧ Onward s (s.leaveAwaited p) :=
  ActsOn.foldl (op := fun t d => t.depart d p) (touch := WarningTouches s) (Good := Onward s) (List.finRange 8)
    (fun t ht d _ => ⟨(depart_acts d p ⟨.refl t, rfl, ht.boundOnce, ht.apart⟩).mono fun _ hi => hi.imp_right ht.steady.inDomain.mp,
      (leaveAwaited_step p ht d).1⟩)
    ((List.nodup_finRange 8).imp fun hne _ hd he => hne (hd.unique hu.apart he)) s hu

theorem leaveAwaited_deadlines : (s.leaveAwaited p).deadlines = s.deadlines :=
  foldl_keeps (f := State.deadlines) (fun t d => depart_deadlines t d p) _ s

theorem lastAwaited_congr {s t : State} {d : Dom} (h : t.domains[d] = s.domains[d]) : t.lastAwaited d p = s.lastAwaited d p := by
  unfold State.lastAwaited
  rw [h]

/-- Stage 4 at one domain (R155). -/
theorem leaveAwaited_domain (hu : Onward s s) (d : Dom) :
    ((s.leaveAwaited p).domains[d], (s.leaveAwaited p).warnings[d]) = s.domainTornDown p d := by
  obtain ⟨m, -, h1, h2⟩ := leaveAwaited_at p hu d
  have hm := depart_domain m d p d
  rw [if_pos rfl] at hm
  rw [h2.domain, h2.warning, hm]
  unfold State.domainTornDown
  rw [lastAwaited_congr p h1.domain, h1.domain, h1.warning]

/-- Stage 4 at one slot (R155, R101, R103). -/
theorem leaveAwaited_gives (hu : Onward s s) (i : SlotNo) : GivesAt i (s.sweptValue p i) s (s.leaveAwaited p) := by
  by_cases hi : ∃ d, WarningTouches s d i
  · obtain ⟨d, hd⟩ := hi
    obtain ⟨m, hm, h1, h2⟩ := leaveAwaited_at p hu d
    have hgive := GivesAt.between (h1.slots i hd) hm.services
      (depart_gives d p ⟨.refl m, rfl, hm.boundOnce, hm.apart⟩ i) (h2.slots i hd)
    refine hgive.congr fun r hr => ?_
    unfold State.departedTo State.sweptValue Record.endedTo
    rw [lastAwaited_congr p h1.domain]
    rcases hd with hd | ⟨r', hr', hd⟩
    · have hnone : r.domain = none := by
        by_contra hc
        obtain ⟨e, he⟩ := Option.ne_none_iff_exists'.mp hc
        have := hu.apart e i ⟨r, hr, he⟩
        rw [hd, domainSlot_val] at this
        omega
      rw [if_pos hd, hnone, hd, domainOfSlot_domainSlot, Option.any_some]
    · rw [hr, Option.some.injEq] at hr'
      subst hr'
      have huser := hu.apart d i ⟨r, hr, hd⟩
      have hne : i ≠ domainSlot d := fun c => by
        rw [c, domainSlot_val] at huser
        omega
      rw [if_neg hne, domainOfSlot_user huser, hd]
      rfl
  · refine ((leaveAwaited_acts_onward p hu).1.standsAt fun ⟨d, _, hd⟩ => hi ⟨d, hd⟩).gives fun r hr => ?_
    unfold State.sweptValue
    have hno : domainOfSlot i = none := by
      by_contra hc
      obtain ⟨d, hd⟩ := Option.ne_none_iff_exists'.mp hc
      exact hi ⟨d, .inl (domainOfSlot_some hd)⟩
    have hnone : r.domain = none := by
      by_contra hc
      obtain ⟨e, he⟩ := Option.ne_none_iff_exists'.mp hc
      exact hi ⟨e, .inr ⟨r, hr, he⟩⟩
    rw [hno, hnone]
    rfl

end leave

end Sys2Proof.Machine
end

section
/-! Teardown, stages 5 to 7: the orphan policies, the system records of p, and the completion (R156 to R159). -/

namespace Sys2Proof.Machine

open Sys2Proof

/-! ## Stage 5 at one slot -/

theorem Record.orphanOf_iff (r : Record) (p : Port) :
    r.orphanOf p = true ↔ r.state = .live ∧ r.owner = .port p ∧ r.locked = false := decide_eq_true_iff

/-- The value its orphan policy leaves in the record r (R156). -/
def Record.orphanValue (r : Record) : Byte :=
  if r.policy = some .toDefault ∧ r.kind = .level then r.dflt.getD r.value else r.value

/-- The record r owned by NONE. -/
def Record.disowned (r : Record) : Record := { r with owner := .nobody }

/-- The orphan policies but RETIRE leave the record owned by NONE, with its default or the value it has (R156). -/
theorem State.orphanRecord_eq {s : State} {i : SlotNo} {r : Record} (hr : s.slots[i].record = some r)
    (hp : r.policy ≠ some .retire) : s.orphanRecord i r = (s.modRecord i Record.disowned).setValue i r.orphanValue := by
  have hval : (s.modRecord i Record.disowned).valueAt i = r.value := by
    simp only [State.valueAt, State.modRecord_record, if_true, hr, Option.map_some, Record.disowned]
  have hstand : (s.modRecord i Record.disowned).setValue i r.value = s.modRecord i Record.disowned := by
    rw [State.setValue_eq, hval, if_pos rfl]
  have hmod : (s.modRecord i fun r => { r with owner := .nobody }) = s.modRecord i Record.disowned := rfl
  unfold State.orphanRecord Record.orphanValue
  cases hpol : r.policy with
  | none => rw [if_neg (fun c => by cases c.1), hstand, hmod]
  | some o =>
    cases o with
    | retire => exact absurd hpol hp
    | retain => rw [if_neg (fun c => by cases c.1), hstand, hmod]
    | toDefault =>
      dsimp only
      rw [hmod]
      cases hk : r.kind with
      | event => rw [if_neg (fun c => by cases c.2), hstand]
      | level =>
        rw [if_pos ⟨rfl, rfl⟩]
        cases hd : r.dflt with
        | none => exact hstand.symm
        | some v => rfl

/-- What a policy but RETIRE does at the slot of an orphan. -/
theorem State.disown_acts (s : State) (i : SlotNo) (v : Byte) :
    ActsOn (· = i) s ((s.modRecord i Record.disowned).setValue i v) := by
  have hsub : ∀ j q, (s.modRecord i Record.disowned).subAt j q = s.subAt j q := fun j q => by
    unfold State.subAt
    rw [State.modRecord_record]
    by_cases hj : j = i
    · subst hj
      rw [if_pos rfl]
      cases s.slots[j].record <;> rfl
    · rw [if_neg hj]
  exact ((ActsOn.modRecord s i Record.disowned fun _ => rfl).trans_marks (.setValue _ i v) fun j q => .inl (by rw [hsub])).mono
    fun j hj => hj.elim id id

section orphan
variable {s : State} {p : Port} {i : SlotNo} {r : Record}

theorem orphanSlot_stands (h : ∀ r, s.slots[i].record = some r → r.orphanOf p = false) : State.orphanSlot p s i = s := by
  unfold State.orphanSlot
  cases hr : s.slots[i].record with
  | none => rfl
  | some r => exact if_neg fun c => by simpa [(Record.orphanOf_iff r p).mpr c] using h r hr

theorem orphanSlot_orphan (hr : s.slots[i].record = some r) (ho : r.orphanOf p = true) :
    State.orphanSlot p s i = s.orphanRecord i r := by
  simp only [State.orphanSlot, hr, if_pos ((Record.orphanOf_iff r p).mp ho)]

theorem Record.retiredBy_iff : r.retiredBy p = true ↔ r.orphanOf p = true ∧ r.policy = some .retire := by
  simp only [Record.retiredBy, Bool.and_eq_true, decide_eq_true_eq]

/-- Stage 5 at one slot retires the record. -/
theorem orphanSlot_retire (hr : s.slots[i].record = some r) (h : r.retiredBy p = true) :
    State.orphanSlot p s i = s.retireRecord i := by
  obtain ⟨ho, hp⟩ := Record.retiredBy_iff.mp h
  rw [orphanSlot_orphan hr ho]
  simp only [State.orphanRecord, hp]

/-- Stage 5 at one slot leaves the record owned by NONE. -/
theorem orphanSlot_disown (hr : s.slots[i].record = some r) (ho : r.orphanOf p = true) (h : r.retiredBy p = false) :
    State.orphanSlot p s i = (s.modRecord i Record.disowned).setValue i r.orphanValue := by
  rw [orphanSlot_orphan hr ho, State.orphanRecord_eq hr fun c => by
    rw [Record.retiredBy_iff.mpr ⟨ho, c⟩] at h
    cases h]

/-- Stage 5 at one slot by its outcome. -/
theorem orphanSlot_cases (p : Port) (s : State) (i : SlotNo) :
    State.orphanSlot p s i = s
      ∨ ∃ r, s.slots[i].record = some r
          ∧ (State.orphanSlot p s i = s.retireRecord i
              ∨ State.orphanSlot p s i = (s.modRecord i Record.disowned).setValue i r.orphanValue) := by
  by_cases h : ∀ r, s.slots[i].record = some r → r.orphanOf p = false
  · exact .inl (orphanSlot_stands h)
  · push Not at h
    obtain ⟨r, hr, ho⟩ := h
    rw [Bool.ne_false_iff] at ho
    refine .inr ⟨r, hr, ?_⟩
    cases hret : r.retiredBy p with
    | true => exact .inl (orphanSlot_retire hr hret)
    | false => exact .inr (orphanSlot_disown hr ho hret)

theorem orphanSlot_acts (p : Port) {s : State} (hu : BoundOnce s) (i : SlotNo) :
    ActsOn (· = i) s (State.orphanSlot p s i) := by
  rcases orphanSlot_cases p s i with h | ⟨r, hr, h | h⟩
  · rw [h]; exact .refl _ s
  · rw [h]; exact .retireRecord s i hu hr
  · rw [h]; exact State.disown_acts s i _

/-- A part that retiring a record and giving it a value and an owner leave, stage 5 leaves. -/
theorem orphanSlot_keeps {β : Type} (f : State → β)
    (h1 : ∀ s i r, s.slots[i].record = some r → f (s.retireRecord i) = f s) (h2 : ∀ s i g, f (s.modRecord i g) = f s)
    (h3 : ∀ s i v, f (s.setValue i v) = f s) (p : Port) (s : State) (i : SlotNo) : f (State.orphanSlot p s i) = f s := by
  rcases orphanSlot_cases p s i with h | ⟨r, hr, h | h⟩
  · rw [h]
  · rw [h, h1 s i r hr]
  · rw [h, h3, h2]

theorem orphanSlot_services (p : Port) (s : State) (i : SlotNo) : (State.orphanSlot p s i).services = s.services :=
  orphanSlot_keeps State.services (fun s i r hr => s.retireRecord_services i r hr) (fun _ _ _ => rfl) (by simp) p s i

theorem orphanSlot_deadlines (p : Port) (s : State) (i : SlotNo) : (State.orphanSlot p s i).deadlines = s.deadlines :=
  orphanSlot_keeps State.deadlines (fun s i r hr => by rw [s.retireRecord_frame i r hr]) (fun _ _ _ => rfl) (by simp) p s i

theorem orphanSlot_domains (p : Port) (s : State) (i : SlotNo) : (State.orphanSlot p s i).domains = s.domains :=
  orphanSlot_keeps State.domains (fun s i r hr => by rw [s.retireRecord_frame i r hr]) (fun _ _ _ => rfl) (by simp) p s i

theorem orphanSlot_warnings (p : Port) (s : State) (i : SlotNo) : (State.orphanSlot p s i).warnings = s.warnings :=
  orphanSlot_keeps State.warnings (fun s i r hr => by rw [s.retireRecord_frame i r hr]) (fun _ _ _ => rfl) (by simp) p s i

end orphan

/-! ## Stage 5 -/

/-- What stages 5 and 6 keep of a state s0: the service lists, and no pin comes to be bound. -/
structure Orderly (s0 s : State) : Prop where
  services : s.services = s0.services
  bound : ∀ g : Pin, ∀ b ∈ s.pins[g].binding, b ∈ s0.pins[g].binding

theorem Orderly.refl (s : State) : Orderly s s := ⟨rfl, fun _ _ h => h⟩

theorem Orderly.boundOnce {s0 s : State} (h : Orderly s0 s) (hu : BoundOnce s0) : BoundOnce s :=
  fun g g' b hb c hc => hu g g' b (h.bound g b hb) c (h.bound g' c hc)

theorem Orderly.orphanSlot {s0 s : State} (h : Orderly s0 s) (hu : BoundOnce s0) (p : Port) (i : SlotNo) :
    Orderly s0 (State.orphanSlot p s i) :=
  ⟨(orphanSlot_services p s i).trans h.services,
    fun g b hb => h.bound g b ((orphanSlot_acts p (h.boundOnce hu) i).bound g b hb)⟩

section orphans
variable {s : State} (p : Port)

theorem orphanRecords_acts (hu : BoundOnce s) :
    ActsOn (fun i => 20 ≤ i.val) s (s.orphanRecords p) ∧ Orderly s (s.orphanRecords p) := by
  obtain ⟨h, hg⟩ := ActsOn.foldl (op := State.orphanSlot p) (Good := Orderly s) (touch := fun i j => j = i) userSlots
    (fun t ht i _ => ⟨orphanSlot_acts p (ht.boundOnce hu) i, ht.orphanSlot hu p i⟩)
    (((List.nodup_finRange 128).filter _).imp fun hne j hj hk => hne (hj.symm.trans hk)) s (.refl s)
  refine ⟨h.mono ?_, hg⟩
  rintro i ⟨j, hj, rfl⟩
  exact mem_userSlots.mp hj

/-- Stage 5 at one user slot is its policy's own effect there. -/
theorem orphanRecords_at (hu : BoundOnce s) {i : SlotNo} (hi : 20 ≤ i.val) :
    ∃ m, Orderly s m ∧ StandsAt i s m ∧ StandsAt i (State.orphanSlot p m i) (s.orphanRecords p) :=
  (foldl_concerns (Good := Orderly s) (op := State.orphanSlot p) (R := StandsAt) StandsAt.refl
    (fun _ _ _ _ => StandsAt.trans) userSlots ((List.nodup_finRange 128).filter _)
    (fun _ ht j _ => ⟨ht.orphanSlot hu p j, fun _ hk => (orphanSlot_acts p (ht.boundOnce hu) j).standsAt hk⟩)
    s (.refl s)).2 i (mem_userSlots.mpr hi)

theorem orphanRecords_deadlines (s : State) : (s.orphanRecords p).deadlines = s.deadlines :=
  foldl_keeps (f := State.deadlines) (orphanSlot_deadlines p) _ s
theorem orphanRecords_domains (s : State) : (s.orphanRecords p).domains = s.domains :=
  foldl_keeps (f := State.domains) (orphanSlot_domains p) _ s
theorem orphanRecords_warnings (s : State) : (s.orphanRecords p).warnings = s.warnings :=
  foldl_keeps (f := State.warnings) (orphanSlot_warnings p) _ s

/-- A slot that holds no orphan of p stands. -/
theorem orphanRecords_stands (hu : BoundOnce s) {i : SlotNo}
    (h : ∀ r, s.slots[i].record = some r → 20 ≤ i.val → r.orphanOf p = false) : StandsAt i s (s.orphanRecords p) := by
  by_cases hi : 20 ≤ i.val
  · obtain ⟨m, -, h1, h2⟩ := orphanRecords_at p hu hi
    have hm : State.orphanSlot p m i = m := orphanSlot_stands fun r hr => h r (by rw [← h1.slot]; exact hr) hi
    rw [hm] at h2
    exact h1.trans h2
  · exact (orphanRecords_acts p hu).1.standsAt hi

/-- An orphan that is not retired: owned by NONE, with the value its policy leaves; its pin follows. -/
theorem orphanRecords_disown (hu : BoundOnce s) {i : SlotNo} (hi : 20 ≤ i.val) {r : Record}
    (hr : s.slots[i].record = some r) (ho : r.orphanOf p = true) (hret : r.retiredBy p = false) :
    (s.orphanRecords p).slots[i].record = some (r.disowned.given (fun q => s.inService q i) r.orphanValue)
      ∧ ∀ (g : Pin) (b : Binding), s.pins[g].binding = some b → b.slot = i →
          (s.orphanRecords p).pins[g] = (s.pins[g]).following b r r.orphanValue := by
  obtain ⟨m, hm, h1, h2⟩ := orphanRecords_at p hu hi
  have hmr : m.slots[i].record = some r := by rw [h1.slot]; exact hr
  rw [orphanSlot_disown hmr ho hret] at h2
  have hdr : (m.modRecord i Record.disowned).slots[i].record = some r.disowned := by
    rw [State.modRecord_record, if_pos rfl, hmr, Option.map_some]
  have hgive := GivesAt.between (.refl i _) rfl
    (GivesAt.setValue (s := m.modRecord i Record.disowned) (hm.boundOnce hu) i r.orphanValue) h2
  refine ⟨?_, fun g b hb hbi => ?_⟩
  · rw [hgive.record, hdr, Option.map_some]
    simp only [State.inService, State.modRecord_services, hm.services]
  · have hmb := h1.pin g b hb hbi
    have := hgive.pin g b r.disowned (by rw [State.modRecord_pins, hmb]; exact hb) hbi hdr
    rw [this, State.modRecord_pins, hmb]
    rfl

/-- The record a retirement of r in slot i leaves where r is owned by a port. -/
def State.retiredOf (s : State) (i : SlotNo) (r : Record) : Option Record :=
  if ∀ q : Port, s.retiredSub i q r.subs[q] = none then none
  else some { r with state := .draining, subs := Vector.ofFn fun q : Port => s.retiredSub i q r.subs[q] }

/-- A retired orphan: its slot freed, or DRAINING and owned as before; its pin at high impedance and unbound (R157). -/
theorem orphanRecords_retire (hb : BindingsStand s) {i : SlotNo} (hi : 20 ≤ i.val) {r : Record}
    (hr : s.slots[i].record = some r) (hret : r.retiredBy p = true) :
    (s.orphanRecords p).slots[i].record = s.retiredOf i r
      ∧ ∀ (g : Pin) (b : Binding), s.pins[g].binding = some b → b.slot = i →
          (s.orphanRecords p).pins[g] = (s.pins[g]).unbound := by
  have hu := hb.boundOnce
  obtain ⟨m, hm, h1, h2⟩ := orphanRecords_at p hu hi
  have hmu := hm.boundOnce hu
  have hmr : m.slots[i].record = some r := by rw [h1.slot]; exact hr
  rw [orphanSlot_retire hmr hret] at h2
  have hown : r.owner = .port p := ((Record.orphanOf_iff r p).mp (Record.retiredBy_iff.mp hret).1).2.1
  have hno : m.inputBound i = false := by
    rw [← Bool.not_eq_true, State.inputBound_iff m hmu]
    rintro ⟨g, hg⟩
    obtain ⟨b, hmb, hbi, hd⟩ := (inputBoundTo_iff _ _).mp hg
    obtain ⟨r', hr', -, -, ho, -⟩ := hb.bound ((inputBoundTo_iff _ _).mpr ⟨b, hm.bound g b hmb, hbi, hd⟩)
    rw [hr, Option.some.injEq] at hr'
    rw [← hr', hown] at ho
    cases ho
  have hsub : ∀ q o, m.retiredSub i q o = s.retiredSub i q o := fun q o => by
    have : m.inService q i = s.inService q i := by simp only [State.inService, hm.services]
    rw [State.retiredSub, State.retiredSub, this]
  refine ⟨?_, fun g b hgb hbi => ?_⟩
  · rw [h2.slot, State.retireRecord_slot m i r hmr, if_pos rfl]
    simp only [State.retiredOf, State.retiredRecord, hsub, hno, Bool.false_eq_true, if_false]
  · have hmb := h1.pin g b hgb hbi
    have hpin : (m.retireRecord i).pins[g] = (s.pins[g]).unbound := by
      rw [State.retireRecord_pin m i r hmu hmr]
      simp only [hmb, hgb, Option.any_some, hbi, decide_true, if_true]
    have hnone : ∀ c ∈ (m.retireRecord i).pins[g].binding, c.slot = i := fun c hc => by
      rw [hpin] at hc
      cases hc
    rw [h2.wire g hnone, hpin]

end orphans

/-! ## Stages 6 and 7 -/

/-- The value stage 6 leaves in the record r of slot i (R158). -/
def settledValue (p : Port) (link : LinkState) (i : SlotNo) (r : Record) : Byte :=
  if i = overdueSlot p then 0#8 else if i = linkSlot p then teardownLinkValue link else r.value

theorem overdueSlot_ne_linkSlot (p q : Port) : overdueSlot p ≠ linkSlot q := fun h => by
  have := congrArg Fin.val h
  simp only [overdueSlot, linkSlot] at this
  omega

section system
variable {s : State} (p : Port) (link : LinkState)

theorem settleSystemRecords_acts (s : State) :
    ActsOn (fun i => i = overdueSlot p ∨ i = linkSlot p) s (s.settleSystemRecords p link) :=
  (ActsOn.setValue s _ _).trans (.setValue _ _ _) fun _ hi hk => overdueSlot_ne_linkSlot p p (hi.symm.trans hk)

/-- Stage 6 at one slot (R158). -/
theorem settleSystemRecords_gives (hu : BoundOnce s) (i : SlotNo) :
    GivesAt i (settledValue p link i) s (s.settleSystemRecords p link) := by
  have h1 := ActsOn.setValue s (overdueSlot p) 0#8
  have h2 := ActsOn.setValue (s.setValue (overdueSlot p) 0#8) (linkSlot p) (teardownLinkValue link)
  unfold State.settleSystemRecords settledValue
  by_cases ho : i = overdueSlot p
  · subst ho
    exact (GivesAt.between (.refl _ s) rfl (.setValue hu _ 0#8) (h2.standsAt (overdueSlot_ne_linkSlot p p))).congr
      fun _ _ => if_pos rfl
  · by_cases hl : i = linkSlot p
    · subst hl
      refine (GivesAt.between (h1.standsAt ho) (by simp) (.setValue (h1.boundOnce hu) _ (teardownLinkValue link))
        (.refl _ _)).congr fun _ _ => ?_
      rw [if_neg ho, if_pos rfl]
    · refine ((h1.standsAt ho).trans (h2.standsAt hl)).gives fun _ _ => ?_
      rw [if_neg ho, if_neg hl]

end system

theorem completeTeardown_port (s : State) (p q : Port) :
    (s.completeTeardown p).ports[q]
      = if q = p then { s.ports[p] with inCompletion := true, inIndication := some false } else s.ports[q] := by
  unfold State.completeTeardown
  rw [State.owe_ports, set_get]
  simp only [State.modPort_get, if_true]
  split
  · rfl
  · rfl

end Sys2Proof.Machine
end

section
/-! Teardown, stage by stage in one line: the states between the stages, what each slot holds in them, and what all seven
leave of a slot and of a pin (R151). -/

namespace Sys2Proof.Machine

open Sys2Proof

/-! ## The states between the stages -/

/-- After stages 1 to 3. -/
def State.attended (s : State) (p : Port) : State := ((s.dropService p).settleSubs p).resetAttention p

/-- After stage 4. -/
def State.departed (s : State) (p : Port) : State := (s.attended p).leaveAwaited p

/-- After stage 5. -/
def State.orphaned (s : State) (p : Port) : State := (s.departed p).orphanRecords p

/-- After stage 6. -/
def State.tornDown (s : State) (p : Port) : State := (s.orphaned p).settleSystemRecords p s.ports[p].link

theorem teardown_eq (s : State) (p : Port) : s.teardown p = (s.tornDown p).completeTeardown p := by
  unfold State.teardown State.tornDown State.orphaned State.departed State.attended
  dsimp only

/-! ## Stages 1 to 3 together -/

section attended
variable {s : State} (p : Port)

theorem attended_pins (s : State) : (s.attended p).pins = s.pins := by
  rw [State.attended, State.resetAttention, State.modService_pins, settleSubs_pins, dropService_pins]

theorem attended_domains (s : State) : (s.attended p).domains = s.domains := by
  rw [State.attended, State.resetAttention, State.modService_domains, settleSubs_domains, dropService_domains]

theorem attended_warnings (s : State) : (s.attended p).warnings = s.warnings := by
  rw [State.attended, State.resetAttention, State.modService_warnings, settleSubs_warnings, dropService_warnings]

theorem attended_deadlines (s : State) : (s.attended p).deadlines = (s.dropService p).deadlines := by
  rw [State.attended, State.resetAttention, State.modService_deadlines, settleSubs_deadlines]

/-- p's service is as in cold reset, and the other ports' stands (R152, R154). -/
theorem attended_services (s : State) : (s.attended p).services = s.services.set p Service.cold := by
  apply vector_ext
  intro q
  rw [State.attended, State.resetAttention, State.modService_get, settleSubs_services, set_get]
  simp only [dropService_services, if_true]
  split <;> rfl

theorem attended_inService (s : State) (q : Port) (i : SlotNo) :
    (s.attended p).inService q i = (decide (q ≠ p) && s.inService q i) := by
  unfold State.inService
  rw [attended_services, set_get]
  by_cases hq : q = p
  · simp [hq, Service.cold]
  · simp [hq]

theorem attended_record (hl : ServiceListsOrdered s) (i : SlotNo) :
    (s.attended p).slots[i].record
      = (s.slots[i].record.bind fun r => if r.state = .draining ∧ s.inService p i = true then r.leftBy p else some r).map
          (Record.settledFor p) := by
  rw [State.attended, State.resetAttention, State.modService_slots, settleSubs_record, dropService_record (hl.slotsApart p)]

theorem attended_free (hl : ServiceListsOrdered s) {i : SlotNo} (hr : s.slots[i].record = none) :
    (s.attended p).slots[i].record = none := by
  rw [attended_record p hl, hr]
  rfl

/-- A LIVE record after stages 1 to 3. -/
theorem attended_live (hl : ServiceListsOrdered s) {i : SlotNo} {r : Record} (hr : s.slots[i].record = some r)
    (hlive : r.state = .live) : (s.attended p).slots[i].record = some (r.settledFor p) := by
  rw [attended_record p hl, hr, Option.bind_some, if_neg, Option.map_some]
  rw [hlive]
  exact fun c => by cases c.1

/-- Of a DRAINING record, what other ports have in service is all but p's subscription (R18). -/
theorem servedElsewhere_eq (hd : DrainingInService s) {i : SlotNo} {r : Record} (hr : s.slots[i].record = some r)
    (hst : r.state = .draining) : s.servedElsewhere p i r = r.subs.set p none := by
  apply vector_ext
  intro q
  rw [State.servedElsewhere, ofFn_get, set_get]
  by_cases hq : q = p
  · rw [if_neg fun c => c.1 hq, if_pos hq]
  · rw [if_neg hq]
    cases hu : r.subs[q] with
    | none => simp only [Option.map_none, ite_self]
    | some u =>
      obtain ⟨hin, hmark⟩ := (hd i r hr hst).2 q u hu
      rw [if_pos ⟨hq, hin⟩, Option.map_some, ← hmark]

/-- A DRAINING record after stages 1 to 3 (R152, R19). -/
theorem attended_draining (hl : ServiceListsOrdered s) (hd : DrainingInService s) {i : SlotNo} {r : Record}
    (hr : s.slots[i].record = some r) (hst : r.state = .draining) :
    (s.attended p).slots[i].record
      = if ∀ q : Port, (s.servedElsewhere p i r)[q] = none then none
        else some { r with subs := s.servedElsewhere p i r } := by
  have hset : ({ r with subs := r.subs.set p none } : Record).settledFor p = { r with subs := r.subs.set p none } :=
    if_neg (by rw [hst]; exact RecState.noConfusion)
  rw [attended_record p hl, hr, Option.bind_some, servedElsewhere_eq p hd hr hst]
  by_cases hin : s.inService p i = true
  · rw [if_pos ⟨hst, hin⟩]
    unfold Record.leftBy
    by_cases hno : ({ r with subs := r.subs.set p none } : Record).noSubs = true
    · rw [if_pos hno, if_pos ((Record.noSubs_iff _).mp hno), Option.map_none]
    · rw [if_neg hno, if_neg fun c => hno ((Record.noSubs_iff _).mpr c), Option.map_some, hset]
  · have hp : r.subs[p] = none := by
      by_contra hc
      obtain ⟨u, hu⟩ := Option.ne_none_iff_exists'.mp hc
      exact hin ((hd i r hr hst).2 p u hu).1
    have hsame : r.subs.set p none = r.subs := by
      rw [← hp]
      exact set_same r.subs p
    have hsubs : ¬ ∀ q : Port, r.subs[q] = none := fun c => by
      have := (hd i r hr hst).1
      rw [(Record.noSubs_iff r).mpr c] at this
      cases this
    rw [if_neg fun c => hin c.2, Option.map_some, hsame, if_neg hsubs]
    rw [hsame] at hset
    exact congrArg some hset

/-- Where stages 1 to 3 leave a record, there was one. -/
theorem attended_some (hl : ServiceListsOrdered s) (hd : DrainingInService s) {i : SlotNo} {x : Record}
    (hx : (s.attended p).slots[i].record = some x) :
    ∃ r, s.slots[i].record = some r
      ∧ ((r.state = .live ∧ x = r.settledFor p)
          ∨ (r.state = .draining ∧ x = { r with subs := s.servedElsewhere p i r })) := by
  cases hr : s.slots[i].record with
  | none => rw [attended_free p hl hr] at hx; cases hx
  | some r =>
    refine ⟨r, rfl, ?_⟩
    by_cases hst : r.state = .live
    · rw [attended_live p hl hr hst, Option.some.injEq] at hx
      exact .inl ⟨hst, hx.symm⟩
    · have hst : r.state = .draining := by
        cases h : r.state with
        | live => exact absurd h hst
        | draining => rfl
      rw [attended_draining p hl hd hr hst] at hx
      split at hx
      · cases hx
      · rw [Option.some.injEq] at hx
        exact .inr ⟨hst, hx.symm⟩

theorem Record.settledFor_sub (r : Record) {q : Port} (hq : q ≠ p) : (r.settledFor p).subs[q] = r.subs[q] := by
  unfold Record.settledFor
  split
  · simp only [set_get, if_neg hq]
  · rfl

theorem Record.settledFor_form (r : Record) : (r.settledFor p).form = r.form := by
  unfold Record.settledFor
  split <;> rfl

theorem Record.settledFor_value (r : Record) : (r.settledFor p).value = r.value := by
  unfold Record.settledFor
  split <;> rfl

/-- Stages 1 to 3 touch no other port's pending set. -/
theorem attended_pending (hl : ServiceListsOrdered s) (hd : DrainingInService s) (i : SlotNo) {q : Port} (hq : q ≠ p) :
    isPending ((s.attended p).subAt i q) = isPending (s.subAt i q) := by
  unfold State.subAt
  cases hr : s.slots[i].record with
  | none => rw [attended_free p hl hr]
  | some r =>
    cases hst : r.state with
    | live =>
      rw [attended_live p hl hr hst]
      dsimp only
      rw [Record.settledFor_sub p r hq]
    | draining =>
      have hset : (r.subs.set p none)[q] = r.subs[q] := by rw [set_get, if_neg hq]
      rw [attended_draining p hl hd hr hst, servedElsewhere_eq p hd hr hst]
      split
      · next x hx =>
        split at hx
        · cases hx
        · rw [Option.some.injEq] at hx
          rw [← hx, hset]
      · next hx =>
        split at hx
        · next hno =>
          have := hno q
          rw [hset] at this
          rw [this]
        · cases hx

/-- A stage leaves a part alone but for the indications owed. -/
structure Framed (s t : State) : Prop where
  rest : t = { s with deadlines := t.deadlines, warnings := t.warnings, slots := t.slots, idMap := t.idMap
                      services := t.services, domains := t.domains, pins := t.pins, ports := t.ports }
  ports : PortsStand s t

theorem Framed.trans {s t u : State} (h : Framed s t) (k : Framed t u) : Framed s u :=
  ⟨k.rest.trans (by rw [h.rest]), fun q => by rw [k.ports q, h.ports q]⟩

theorem ActsOn.framed {P : SlotNo → Prop} {s t : State} (h : ActsOn P s t) : Framed s t := ⟨h.rest, h.ports⟩

/-- Stage 1 touches no pending mark (R18). -/
theorem dropService_pending (hl : ServiceListsOrdered s) (hd : DrainingInService s) (i : SlotNo) (q : Port) :
    isPending ((s.dropService p).subAt i q) = isPending (s.subAt i q) := by
  unfold State.subAt
  rw [dropService_record (hl.slotsApart p)]
  cases hr : s.slots[i].record with
  | none => rfl
  | some r =>
    rw [Option.bind_some]
    by_cases hc : r.state = .draining ∧ s.inService p i = true
    · have hbefore : isPending r.subs[q] = false := by
        cases hu : r.subs[q] with
        | none => rfl
        | some u => simp only [isPending, ((hd i r hr hc.1).2 q u hu).2, Option.isSome_none]
      have hset : isPending (r.subs.set p none)[q] = false := by
        rw [set_get]
        split
        · rfl
        · exact hbefore
      rw [if_pos hc, Record.leftBy]
      dsimp only
      rw [hbefore]
      split
      · next x hx =>
        split at hx
        · cases hx
        · rw [Option.some.injEq] at hx
          rw [← hx]
          exact hset
      · rfl
    · rw [if_neg hc]

theorem attended_acts (hl : ServiceListsOrdered s) (hd : DrainingInService s) : ActsOn (fun _ => True) s (s.attended p) := by
  have h12 := (dropService_acts (hl.slotsApart p)).trans_marks (settleSubs_acts p (s.dropService p)) fun i q =>
    .inl (dropService_pending p hl hd i q)
  unfold State.attended
  generalize (s.dropService p).settleSubs p = m at h12
  have h3 : ActsOn (fun _ => False) m (m.resetAttention p) := .of_same rfl rfl rfl rfl
  exact (h12.trans_marks h3 fun i q => .inr (by rw [h3.subAt id])).mono fun _ _ => trivial

theorem Moves.attended (s : State) : Moves s (s.attended p) := by
  unfold State.attended
  exact Moves.trans (Moves.trans (.foldl (.dropEntry p) s.services[p].list s) (.foldl (.settleSub p) (List.finRange 128) _))
    (Stands.modService _ p (fun v =>
      { v with threshold := Service.cold.threshold, rotation := Service.cold.rotation,
               tokenCounter := Service.cold.tokenCounter }) fun _ h => h).moves

theorem Moves.departed (s : State) : Moves s (s.departed p) :=
  (Moves.attended p s).trans (.foldl (fun t d => .depart t d p) (List.finRange 8) _)

end attended

end Sys2Proof.Machine
end

section
/-! What the seven stages of a teardown leave in each slot and at each pin (R151 to R158). -/

namespace Sys2Proof.Machine

open Sys2Proof

/-! ## A value given twice -/

/-- Of two values given in turn, one of which is no change, the last stands as if given alone. -/
theorem Record.given_twice {serving : Port → Bool} {v w : Byte} {r : Record} (h : v = r.value ∨ w = v) :
    (r.given serving v).given serving w = r.given serving w := by
  rcases h with h | h
  · rw [Record.given_same h]
  · rw [h, Record.given_given]

theorem PinState.following_twice {x : PinState} {b : Binding} {r r' : Record} {v w : Byte} (hr : r'.value = v)
    (h : v = r.value ∨ w = v) : (x.following b r v).following b r' w = x.following b r w := by
  rcases h with h | h
  · rw [PinState.following_same h]
    unfold PinState.following
    rw [hr, h]
  · rw [h, PinState.following_same hr.symm]

/-- A pin follows the value of its record alone. -/
theorem PinState.following_congr {x : PinState} {b : Binding} {r r' : Record} {v : Byte} (h : r'.value = r.value) :
    x.following b r' v = x.following b r v := by
  unfold PinState.following
  rw [h]

theorem Record.disowned_given (serving : Port → Bool) (v : Byte) (r : Record) :
    r.disowned.given serving v = (r.given serving v).disowned := by
  unfold Record.given Record.disowned
  split <;> rfl

theorem Record.given_orphanOf (serving : Port → Bool) (v : Byte) (r : Record) (p : Port) :
    (r.given serving v).orphanOf p = r.orphanOf p := by
  unfold Record.given
  split <;> rfl

theorem Record.given_retiredBy (serving : Port → Bool) (v : Byte) (r : Record) (p : Port) :
    (r.given serving v).retiredBy p = r.retiredBy p := by
  unfold Record.given
  split <;> rfl

theorem Record.given_orphanValue (serving : Port → Bool) (v : Byte) (r : Record) :
    (r.given serving v).orphanValue = if r.policy = some .toDefault ∧ r.kind = .level then r.dflt.getD v else v := by
  unfold Record.given
  split
  · next h => rw [h]; rfl
  · rfl

theorem Record.settledFor_orphanOf (r : Record) (p : Port) : (r.settledFor p).orphanOf p = r.orphanOf p := by
  unfold Record.settledFor
  split <;> rfl

theorem Record.settledFor_retiredBy (r : Record) (p : Port) : (r.settledFor p).retiredBy p = r.retiredBy p := by
  unfold Record.settledFor
  split <;> rfl

/-! ## The values of the stages -/

theorem Record.sweptTo_eq (d : Dom) (r : Record) :
    r.sweptTo d
      = if r.state = .live ∧ r.domain = some d ∧ r.kind = .level ∧ r.locked = false then r.dflt.getD r.value else r.value := by
  unfold Record.sweptTo Record.sweepTarget
  split
  · cases r.dflt with
    | none => rfl
    | some v =>
      dsimp only
      split
      · next h => exact h
      · rfl
  · rfl

section values
variable {s : State} {p : Port} {i : SlotNo} {r : Record}

theorem attended_sweptValue (s : State) (p : Port) (i : SlotNo) (r : Record) :
    (s.attended p).sweptValue p i (r.settledFor p) = s.sweptValue p i r := by
  have hdom : ∀ d, (s.attended p).lastAwaited d p = s.lastAwaited d p := fun d =>
    lastAwaited_congr p (by rw [attended_domains])
  have hstate : ∀ x, (s.attended p).sweptValue p i x = s.sweptValue p i x := fun x => by
    unfold State.sweptValue
    simp only [hdom]
  rw [hstate, Record.settledFor]
  split <;> rfl

/-- The sweep of a domain whose warning the teardown of p ends reaches the LIVE record r. -/
def State.sweptBy (s : State) (p : Port) (r : Record) : Prop :=
  r.kind = .level ∧ r.locked = false ∧ ∃ d, r.domain = some d ∧ s.lastAwaited d p = true

theorem sweptValue_swept (hi : 20 ≤ i.val) (hl : r.state = .live) (h : s.sweptBy p r) :
    s.sweptValue p i r = r.dflt.getD r.value := by
  obtain ⟨hk, hlock, d, hd, ha⟩ := h
  simp only [State.sweptValue, domainOfSlot_user hi, Option.any_none, Bool.false_eq_true, if_false, hd, ha, if_true]
  rw [Record.sweptTo_eq, if_pos ⟨hl, hd, hk, hlock⟩]

theorem sweptValue_spared (hi : 20 ≤ i.val) (h : ¬ (r.state = .live ∧ s.sweptBy p r)) : s.sweptValue p i r = r.value := by
  simp only [State.sweptValue, domainOfSlot_user hi, Option.any_none, Bool.false_eq_true, if_false]
  cases hd : r.domain with
  | none => rfl
  | some d =>
    dsimp only
    split
    · next ha => rw [Record.sweptTo_eq, if_neg fun c => h ⟨c.1, c.2.2.1, c.2.2.2, d, hd, ha⟩]
    · rfl

theorem defaultedBy_iff : s.defaultedBy p r = true
    ↔ s.sweptBy p r ∨ (r.orphanOf p = true ∧ r.policy = some .toDefault ∧ r.kind = .level) := by
  simp only [State.defaultedBy, State.sweptBy, Bool.and_eq_true, Bool.or_eq_true, decide_eq_true_eq, Option.any_eq_true]
  constructor
  · rintro ⟨hk, ⟨d, hd, ha, hl⟩ | ⟨ho, hp⟩⟩
    · exact .inl ⟨hk, hl, d, hd, ha⟩
    · exact .inr ⟨ho, hp, hk⟩
  · rintro (⟨hk, hl, d, hd, ha⟩ | ⟨ho, hp, hk⟩)
    · exact ⟨hk, .inl ⟨d, hd, ha, hl⟩⟩
    · exact ⟨hk, .inr ⟨ho, hp⟩⟩

theorem valueTornDown_user (hi : 20 ≤ i.val) :
    s.valueTornDown p i r = if s.defaultedBy p r = true then r.dflt.getD r.value else r.value := by
  have ho : i ≠ overdueSlot p := fun c => by rw [c] at hi; simp only [overdueSlot] at hi; omega
  have hl : i ≠ linkSlot p := fun c => by rw [c] at hi; simp only [linkSlot] at hi; omega
  rw [State.valueTornDown, if_neg ho, if_neg hl, domainOfSlot_user hi]
  exact if_neg Bool.noConfusion

/-- Where the sweep has returned a record to its default, the teardown leaves it there. -/
theorem sweptValue_or (hi : 20 ≤ i.val) (hl : r.state = .live) :
    s.sweptValue p i r = r.value ∨ s.valueTornDown p i r = s.sweptValue p i r := by
  by_cases h : s.sweptBy p r
  · exact .inr (by rw [valueTornDown_user hi, if_pos (defaultedBy_iff.mpr (.inl h)), sweptValue_swept hi hl h])
  · exact .inl (sweptValue_spared hi fun c => h c.2)

/-- The policy of an orphan, applied after the sweep, leaves the value of the teardown. -/
theorem orphanValue_after (hi : 20 ≤ i.val) (hl : r.state = .live) (ho : r.orphanOf p = true) :
    (if r.policy = some .toDefault ∧ r.kind = .level then r.dflt.getD (s.sweptValue p i r) else s.sweptValue p i r)
      = s.valueTornDown p i r := by
  have hget : r.dflt.getD (r.dflt.getD r.value) = r.dflt.getD r.value := by cases r.dflt <;> rfl
  rw [valueTornDown_user hi]
  by_cases hs : s.sweptBy p r
  · rw [sweptValue_swept hi hl hs, hget, ite_self, if_pos (defaultedBy_iff.mpr (.inl hs))]
  · rw [sweptValue_spared hi fun c => hs c.2]
    refine if_congr ?_ rfl rfl
    rw [defaultedBy_iff]
    exact ⟨fun c => .inr ⟨ho, c⟩, fun c => (c.resolve_left hs).2⟩

/-- A record whose policy does not return it to its default has the value the sweep leaves. -/
theorem valueTornDown_swept (hi : 20 ≤ i.val) (hl : r.state = .live)
    (h : ¬ (r.orphanOf p = true ∧ r.policy = some .toDefault ∧ r.kind = .level)) :
    s.valueTornDown p i r = s.sweptValue p i r := by
  rw [valueTornDown_user hi]
  by_cases hs : s.sweptBy p r
  · rw [if_pos (defaultedBy_iff.mpr (.inl hs)), sweptValue_swept hi hl hs]
  · rw [if_neg fun c => (defaultedBy_iff.mp c).elim hs h, sweptValue_spared hi fun c => hs c.2]

theorem valueTornDown_retired (hi : 20 ≤ i.val) (hret : r.retiredBy p = true) :
    s.valueTornDown p i r = s.sweptValue p i r := by
  obtain ⟨ho, hp⟩ := Record.retiredBy_iff.mp hret
  refine valueTornDown_swept hi ((Record.orphanOf_iff r p).mp ho).1 fun c => ?_
  rw [hp] at c
  cases c.2.1

end values

/-! ## The slots -/

/-- What a teardown asks of the state it starts from. -/
structure TearsDown (s : State) : Prop where
  systems : SystemsHold s
  ordered : ServiceListsOrdered s
  bindings : BindingsStand s
  draining : DrainingInService s

section slots
variable {s : State} (h : TearsDown s) (p : Port)
include h

theorem TearsDown.attended_onward : Onward (s.attended p) (s.attended p) :=
  ⟨.refl _, rfl, ((Moves.attended p s).keep (fun _ _ => Move.bindingsStand) h.bindings).boundOnce,
    ((Moves.attended p s).keep (fun _ _ => Move.systemsHold) h.systems).systemsApart⟩

theorem TearsDown.departed_bindings : BindingsStand (s.departed p) :=
  (Moves.departed p s).keep (fun _ _ => Move.bindingsStand) h.bindings

theorem TearsDown.departed_acts :
    ActsOn (fun i => ∃ d ∈ List.finRange 8, WarningTouches (s.attended p) d i) (s.attended p) (s.departed p) :=
  (leaveAwaited_acts_onward p (h.attended_onward p)).1

theorem TearsDown.departed_services : (s.departed p).services = (s.attended p).services :=
  (leaveAwaited_acts_onward p (h.attended_onward p)).2.services

theorem TearsDown.departed_gives (i : SlotNo) :
    GivesAt i ((s.attended p).sweptValue p i) (s.attended p) (s.departed p) :=
  leaveAwaited_gives p (h.attended_onward p) i

theorem TearsDown.orphaned_acts : ActsOn (fun i => 20 ≤ i.val) (s.departed p) (s.orphaned p) :=
  (orphanRecords_acts p (h.departed_bindings p).boundOnce).1

theorem TearsDown.orphaned_services : (s.orphaned p).services = (s.attended p).services :=
  (orphanRecords_acts p (h.departed_bindings p).boundOnce).2.services.trans (h.departed_services p)

theorem TearsDown.orphaned_boundOnce : BoundOnce (s.orphaned p) :=
  (h.orphaned_acts p).boundOnce (h.departed_bindings p).boundOnce

omit h in
theorem tornDown_acts (s : State) (p : Port) :
    ActsOn (fun i => i = overdueSlot p ∨ i = linkSlot p) (s.orphaned p) (s.tornDown p) :=
  settleSystemRecords_acts p s.ports[p].link (s.orphaned p)

omit h in
/-- Stage 6 leaves the user slots. -/
theorem tornDown_user (s : State) (p : Port) {i : SlotNo} (hi : 20 ≤ i.val) : StandsAt i (s.orphaned p) (s.tornDown p) := by
  refine (tornDown_acts s p).standsAt ?_
  rintro (c | c)
  · rw [c] at hi
    simp only [overdueSlot] at hi
    omega
  · rw [c] at hi
    simp only [linkSlot] at hi
    omega

/-- A LIVE record after stage 4. -/
theorem TearsDown.departed_live {i : SlotNo} {r : Record} (hr : s.slots[i].record = some r) (hl : r.state = .live) :
    (s.departed p).slots[i].record
      = some ((r.settledFor p).given (fun q => (s.attended p).inService q i) (s.sweptValue p i r)) := by
  rw [(h.departed_gives p i).record, attended_live p h.ordered hr hl, Option.map_some, attended_sweptValue]

theorem TearsDown.departed_pin {i : SlotNo} {r : Record} (hr : s.slots[i].record = some r) (hl : r.state = .live) {g : Pin}
    {b : Binding} (hb : s.pins[g].binding = some b) (hbi : b.slot = i) :
    (s.departed p).pins[g] = (s.pins[g]).following b r (s.sweptValue p i r) := by
  have hpin : (s.attended p).pins[g] = s.pins[g] := by rw [attended_pins]
  rw [(h.departed_gives p i).pin g b _ (by rw [hpin]; exact hb) hbi (attended_live p h.ordered hr hl), hpin,
    attended_sweptValue, PinState.following_congr (r.settledFor_value p)]

/-- A LIVE user record that is not retired: given its value by one change at most; the owner of an orphan is NONE, and the
OUTPUT pin follows. -/
theorem TearsDown.kept {i : SlotNo} (hi : 20 ≤ i.val) {r : Record} (hr : s.slots[i].record = some r) (hl : r.state = .live)
    (hret : r.retiredBy p = false) :
    (s.tornDown p).slots[i].record
        = some { (r.settledFor p).given (fun q => (s.attended p).inService q i) (s.valueTornDown p i r) with
                 owner := if r.orphanOf p = true then .nobody else r.owner }
      ∧ ∀ (g : Pin) (b : Binding), s.pins[g].binding = some b → b.slot = i →
          (s.tornDown p).pins[g] = (s.pins[g]).following b r (s.valueTornDown p i r) := by
  have hu := (h.departed_bindings p).boundOnce
  have h4 := h.departed_live p hr hl
  have hsix := tornDown_user s p hi
  have hor : s.sweptValue p i r = (r.settledFor p).value ∨ s.valueTornDown p i r = s.sweptValue p i r := by
    rw [r.settledFor_value]
    exact sweptValue_or hi hl
  have hkeep : ∀ x : PinState, ∀ b : Binding, ∀ r' : Record, r'.value = s.sweptValue p i r →
      (x.following b r (s.sweptValue p i r)).following b r' (s.valueTornDown p i r) = x.following b r (s.valueTornDown p i r) :=
    fun x b r' hr' => PinState.following_twice hr' (sweptValue_or hi hl)
  by_cases ho : r.orphanOf p = true
  · obtain ⟨h5, hpins⟩ := orphanRecords_disown p hu hi h4
      (by rw [Record.given_orphanOf, Record.settledFor_orphanOf]; exact ho)
      (by rw [Record.given_retiredBy, Record.settledFor_retiredBy]; exact hret)
    have hval : ((r.settledFor p).given (fun q => (s.attended p).inService q i) (s.sweptValue p i r)).orphanValue
        = s.valueTornDown p i r := by
      rw [Record.given_orphanValue, ← orphanValue_after hi hl ho]
      unfold Record.settledFor
      split <;> rfl
    have hserv : (fun q => (s.departed p).inService q i) = fun q => (s.attended p).inService q i := by
      funext q
      simp only [State.inService, h.departed_services p]
    rw [hval] at h5 hpins
    refine ⟨?_, fun g b hb hbi => ?_⟩
    · rw [hsix.slot]
      refine h5.trans ?_
      rw [hserv, Record.disowned_given, Record.given_twice hor, if_pos ho]
      rfl
    · have h4p := h.departed_pin p hr hl hb hbi
      have h5p := hpins g b (by rw [h4p, PinState.following_binding]; exact hb) hbi
      rw [h4p, hkeep _ _ _ (Record.given_value _ _ _)] at h5p
      rw [hsix.pin g b ((congrArg PinState.binding h5p).trans ((PinState.following_binding _ _ _ _).trans hb)) hbi]
      exact h5p
  · have hstand : StandsAt i (s.departed p) (s.orphaned p) := orphanRecords_stands p hu fun r' hr' _ => by
      rw [h4, Option.some.injEq] at hr'
      rw [← hr', Record.given_orphanOf, Record.settledFor_orphanOf]
      exact Bool.eq_false_of_not_eq_true ho
    have hval : s.sweptValue p i r = s.valueTornDown p i r := (valueTornDown_swept hi hl fun c => ho c.1).symm
    have hown : ∀ x : Record, x.owner = r.owner → x = { x with owner := r.owner } := fun x hx => by rw [← hx]
    rw [if_neg ho]
    refine ⟨?_, fun g b hb hbi => ?_⟩
    · rw [hsix.slot, hstand.slot, h4, hval]
      refine congrArg some (hown _ ?_)
      unfold Record.given Record.settledFor
      split <;> split <;> rfl
    · have h4p := h.departed_pin p hr hl hb hbi
      rw [(hstand.trans hsix).pin g b (by rw [h4p, PinState.following_binding]; exact hb) hbi, h4p, hval]

/-- What a retirement keeps of a record's subscriptions is what other ports had in service (R157, R16). -/
theorem TearsDown.retiredSub_eq {i : SlotNo} {r : Record} (q : Port) (v : Byte) :
    (s.departed p).retiredSub i q
        ((r.settledFor p).given (fun q => (s.attended p).inService q i) v).subs[q]
      = (s.servedElsewhere p i r)[q] := by
  have hserv : (s.departed p).inService q i = (decide (q ≠ p) && s.inService q i) := by
    rw [State.inService, h.departed_services p]
    exact attended_inService p s q i
  have hmark : ∀ u : Sub, ∀ b : Bool, ∀ x y : Byte, { u.afterChange b x y 0 with mark := none } = ({ u with mark := none } : Sub) := by
    intro u b x y
    unfold Sub.afterChange
    split
    · rfl
    · split
      · rfl
      · split <;> rfl
  rw [State.retiredSub, hserv, State.servedElsewhere, ofFn_get]
  by_cases hq : q ≠ p ∧ s.inService q i = true
  · rw [if_pos (by rw [hq.2, Bool.and_true]; exact decide_eq_true hq.1), if_pos hq, Record.given_sub,
      Record.settledFor_sub p r hq.1]
    unfold unmarked
    split
    · rfl
    · rw [Option.map_map]
      exact congrArg (fun f => Option.map f r.subs[q]) (funext fun u => hmark u _ _ _)
  · rw [if_neg fun c => hq (by simpa only [Bool.and_eq_true, decide_eq_true_eq] using c), if_neg hq]

/-- A retired record: the slot FREE, or DRAINING for the ports that have it in service, and its pin unbound. -/
theorem TearsDown.retired {i : SlotNo} (hi : 20 ≤ i.val) {r : Record} (hr : s.slots[i].record = some r)
    (hret : r.retiredBy p = true) :
    (s.tornDown p).slots[i].record
        = (if ∀ q : Port, (s.servedElsewhere p i r)[q] = none then none
          else some { (r.settledFor p).given (fun q => (s.attended p).inService q i) (s.valueTornDown p i r) with
                      state := .draining, subs := s.servedElsewhere p i r })
      ∧ ∀ (g : Pin) (b : Binding), s.pins[g].binding = some b → b.slot = i →
          (s.tornDown p).pins[g] = (s.pins[g]).unbound := by
  have hl := ((Record.orphanOf_iff r p).mp (Record.retiredBy_iff.mp hret).1).1
  have h4 := h.departed_live p hr hl
  obtain ⟨h5, hpins⟩ := orphanRecords_retire p (h.departed_bindings p) hi h4
    (by rw [Record.given_retiredBy, Record.settledFor_retiredBy]; exact hret)
  have hsix := tornDown_user s p hi
  have hsubs : (Vector.ofFn fun q : Port => (s.departed p).retiredSub i q
      ((r.settledFor p).given (fun q => (s.attended p).inService q i) (s.sweptValue p i r)).subs[q])
      = s.servedElsewhere p i r := vector_ext fun q => by rw [ofFn_get]; exact h.retiredSub_eq p q _
  refine ⟨?_, fun g b hb hbi => ?_⟩
  · rw [hsix.slot]
    refine h5.trans ?_
    rw [State.retiredOf, hsubs, valueTornDown_retired hi hret]
    simp only [h.retiredSub_eq p]
  · have h4p := h.departed_pin p hr hl hb hbi
    have h5p := hpins g b (by rw [h4p, PinState.following_binding]; exact hb) hbi
    have hun : ((s.departed p).pins[g]).unbound = (s.pins[g]).unbound := by
      rw [h4p]
      unfold PinState.following
      split <;> rfl
    rw [hun] at h5p
    have hnone : ∀ c ∈ (s.orphaned p).pins[g].binding, c.slot = i := fun c hc => by
      rw [State.orphaned, h5p] at hc
      cases hc
    rw [hsix.wire g hnone]
    exact h5p

/-- A FREE slot stays FREE. -/
theorem TearsDown.free {i : SlotNo} (hr : s.slots[i].record = none) : (s.tornDown p).slots[i].record = none := by
  have h3 := attended_free p h.ordered hr
  have h4 : (s.departed p).slots[i].record = none := by rw [(h.departed_gives p i).record, h3]; rfl
  have h5 := orphanRecords_stands p (h.departed_bindings p).boundOnce (i := i) fun r hr' _ => by rw [h4] at hr'; cases hr'
  have h6 := settleSystemRecords_gives p s.ports[p].link (h.orphaned_boundOnce p) i
  have h5' : (s.orphaned p).slots[i].record = none := (congrArg Slot.record h5.slot).trans h4
  exact h6.record.trans (by rw [h5']; rfl)

/-- A record DRAINING before the teardown is as its first stage leaves it (R152). -/
theorem TearsDown.drained {i : SlotNo} (hi : 20 ≤ i.val) {r : Record} (hr : s.slots[i].record = some r)
    (hst : r.state = .draining) : (s.tornDown p).slots[i] = (s.attended p).slots[i] := by
  have hx : ∀ x, (s.attended p).slots[i].record = some x → x.state = .draining := fun x hx => by
    rw [attended_draining p h.ordered h.draining hr hst] at hx
    split at hx
    · cases hx
    · rw [Option.some.injEq] at hx
      rw [← hx]
      exact hst
  have h4 : (s.departed p).slots[i].record = (s.attended p).slots[i].record := by
    rw [(h.departed_gives p i).record]
    cases hx' : (s.attended p).slots[i].record with
    | none => rfl
    | some x =>
      rw [Option.map_some, Record.given_same]
      exact sweptValue_spared hi fun c => by rw [hx x hx'] at c; cases c.1
  have hgen : (s.departed p).slots[i].gen = (s.attended p).slots[i].gen := (leaveAwaited_acts_onward p (h.attended_onward p)).2.steady.gen i
  have hslot : ∀ x y : Slot, x.gen = y.gen → x.record = y.record → x = y := fun x y h1 h2 => by
    cases x; cases y; simp only at h1 h2; rw [h1, h2]
  have h5 := orphanRecords_stands p (h.departed_bindings p).boundOnce (i := i) fun x hx' _ => by
    rw [h4] at hx'
    simp only [Record.orphanOf, hx x hx', reduceCtorEq, false_and, decide_false]
  exact ((tornDown_user s p hi).slot.trans h5.slot).trans (hslot _ _ hgen h4)

omit h in
theorem teardownLinkValue_eq (l : LinkState) : teardownLinkValue l = if l = .closing .fault then 2#8 else 0#8 := by
  cases l with
  | closing c => cases c <;> rfl
  | off | closed | opened | faulted => rfl

omit h in
theorem domainOfSlot_overdueSlot (p : Port) : domainOfSlot (overdueSlot p) = none := by
  revert p
  decide

omit h in
theorem domainOfSlot_linkSlot (p : Port) : domainOfSlot (linkSlot p) = none := by
  revert p
  decide

/-- The values stages 4 and 6 leave in a system record, of which one at most is a change. -/
theorem TearsDown.system_values {i : SlotNo} (hi : i.val < 20) {r : Record} (hr : s.slots[i].record = some r) (x : Record)
    (hx : x.value = s.sweptValue p i r) :
    settledValue p s.ports[p].link i x = s.valueTornDown p i r
      ∧ (s.sweptValue p i r = r.value ∨ s.valueTornDown p i r = s.sweptValue p i r) := by
  obtain ⟨r', hr', -, -, -, hdom, hown, -⟩ := h.systems.record hi
  rw [hr, Option.some.injEq] at hr'
  subst hr'
  have hswept : s.sweptValue p i r = if (domainOfSlot i).any (fun d => s.lastAwaited d p) = true then 2#8 else r.value := by
    rw [State.sweptValue, hdom]
  have hspared : s.defaultedBy p r = false := by
    simp only [State.defaultedBy, hdom, Option.any_none, Record.orphanOf, hown, reduceCtorEq, false_and, and_false, decide_false,
      Bool.false_and, Bool.or_self, Bool.and_false]
  unfold settledValue State.valueTornDown
  rw [hx, hswept, hspared, teardownLinkValue_eq]
  by_cases ho : i = overdueSlot p
  · rw [if_pos ho, if_pos ho, ho, domainOfSlot_overdueSlot]
    exact ⟨rfl, .inl rfl⟩
  · rw [if_neg ho, if_neg ho]
    by_cases hl : i = linkSlot p
    · rw [if_pos hl, if_pos hl, hl, domainOfSlot_linkSlot]
      exact ⟨rfl, .inl rfl⟩
    · rw [if_neg hl, if_neg hl]
      exact ⟨rfl, .inr rfl⟩

/-- A system record is given its value by one change at most. -/
theorem TearsDown.system {i : SlotNo} (hi : i.val < 20) {r : Record} (hr : s.slots[i].record = some r) (hl : r.state = .live) :
    (s.tornDown p).slots[i].record
      = some ((r.settledFor p).given (fun q => (s.attended p).inService q i) (s.valueTornDown p i r)) := by
  have h4 := h.departed_live p hr hl
  have h5 : (s.orphaned p).slots[i].record = (s.departed p).slots[i].record :=
    congrArg Slot.record ((h.orphaned_acts p).slot i (Nat.not_le.mpr hi))
  obtain ⟨hv, hor⟩ := h.system_values p hi hr _ (Record.given_value (fun q => (s.attended p).inService q i)
    (s.sweptValue p i r) (r.settledFor p))
  have h6 : (s.tornDown p).slots[i].record = _ := (settleSystemRecords_gives p s.ports[p].link (h.orphaned_boundOnce p) i).record
  have hserv : (fun q => (s.orphaned p).inService q i) = fun q => (s.attended p).inService q i := by
    funext q
    simp only [State.inService, h.orphaned_services p]
  rw [h6, h5, h4, Option.map_some, hv, hserv, Record.given_twice]
  rw [r.settledFor_value]
  exact hor

end slots

end Sys2Proof.Machine
end

section
/-! TEARDOWN_REQUEST: what the seven stages leave, as it is said slot by slot, pin by pin and port by port (R151 to R159). -/

namespace Sys2Proof.Machine

open Sys2Proof

/-! ## Slots and pins -/

section torn
variable {s : State} {p : Port} {i : SlotNo} {r : Record}

/-- A subscription of a LIVE record settled and then evaluated at the change, if there is one. -/
theorem subTornDown_eq (hl : r.state = .live) (v : Byte) (q : Port) :
    ((r.settledFor p).given (fun q => (s.attended p).inService q i) v).subs[q] = s.subTornDown p i r v q := by
  have hleft : (r.settledFor p).subs[q]
      = if q = p then (r.subs[q].filter (·.keep)).map fun u => u.settled r.value else r.subs[q] := by
    rw [Record.settledFor, if_pos hl]
    simp only [set_get]
    split
    · next hq => rw [hq]
    · rfl
  rw [Record.given_sub, r.settledFor_value, hleft, attended_inService]
  rfl

/-- A LIVE record settled and then given the value of the teardown, field by field. -/
theorem settled_given_eq (hl : r.state = .live) (v : Byte) :
    (r.settledFor p).given (fun q => (s.attended p).inService q i) v
      = { r with
          value := v
          version := if v = r.value then r.version else r.version + 1
          subs := Vector.ofFn fun q : Port => s.subTornDown p i r v q } := by
  have hsubs : ((r.settledFor p).given (fun q => (s.attended p).inService q i) v).subs
      = Vector.ofFn fun q : Port => s.subTornDown p i r v q := vector_ext fun q => by rw [ofFn_get, subTornDown_eq hl]
  have hversion : ((r.settledFor p).given (fun q => (s.attended p).inService q i) v).version
      = if v = r.value then r.version else r.version + 1 := by
    rw [Record.given, r.settledFor_value, Record.settledFor, if_pos hl]
    split <;> rfl
  have hform : ((r.settledFor p).given (fun q => (s.attended p).inService q i) v).form = r.form :=
    (Record.given_form _ _ _).trans (r.settledFor_form p)
  rw [Record.form_eq hform, hsubs, hversion, Record.given_value]

theorem recordTornDown_live (hl : r.state = .live) (hret : r.retiredBy p = false) :
    s.recordTornDown p i r
      = some { (r.settledFor p).given (fun q => (s.attended p).inService q i) (s.valueTornDown p i r) with
               owner := if r.orphanOf p = true then .nobody else r.owner } := by
  rw [settled_given_eq hl]
  unfold State.recordTornDown
  rw [if_neg (by rw [hl, hret]; simp only [reduceCtorEq, Bool.false_eq_true, or_self, not_false_eq_true]), if_pos hl]

theorem recordTornDown_retired (hl : r.state = .live) (hret : r.retiredBy p = true) :
    s.recordTornDown p i r
      = if ∀ q : Port, (s.servedElsewhere p i r)[q] = none then none
        else some { (r.settledFor p).given (fun q => (s.attended p).inService q i) (s.valueTornDown p i r) with
                    state := .draining, subs := s.servedElsewhere p i r } := by
  rw [settled_given_eq hl]
  unfold State.recordTornDown
  rw [if_pos (Or.inr hret), if_pos hl]

theorem recordTornDown_draining (hst : r.state = .draining) :
    s.recordTornDown p i r
      = if ∀ q : Port, (s.servedElsewhere p i r)[q] = none then none else some { r with subs := s.servedElsewhere p i r } := by
  have hsame : { r with state := .draining, subs := s.servedElsewhere p i r } = { r with subs := s.servedElsewhere p i r } := by
    rw [← hst]
  have hvalue : (if r.state = .live then s.valueTornDown p i r else r.value) = r.value :=
    if_neg (by rw [hst]; exact RecState.noConfusion)
  unfold State.recordTornDown
  dsimp only
  rw [if_pos (Or.inl hst), hvalue, if_pos rfl, hsame]

/-- The pin bound to a record by its outcome: unbound if the record is retired, else following its value. -/
theorem pinTornDown_bound {x : PinState} {b : Binding} (hb : x.binding = some b) (hr : s.slots[b.slot].record = some r) :
    s.pinTornDown p x
      = if r.retiredBy p = true then x.unbound else x.following b r (s.valueTornDown p b.slot r) := by
  unfold State.pinTornDown
  split
  · next hb' => rw [hb] at hb'; cases hb'
  · next b' hb' =>
    rw [hb, Option.some.injEq] at hb'
    subst hb'
    split
    · next hr' => rw [hr] at hr'; cases hr'
    · next r' hr' =>
      rw [hr, Option.some.injEq] at hr'
      subst hr'
      rfl

theorem pinTornDown_free {x : PinState} (hb : x.binding = none) : s.pinTornDown p x = x := by
  unfold State.pinTornDown
  split
  · rfl
  · next b hb' => rw [hb] at hb'; cases hb'

end torn

theorem RecState.eq_draining {x : RecState} (h : x ≠ .live) : x = .draining := by
  cases x with
  | live => exact absurd rfl h
  | draining => rfl

section teardown
variable {s : State} (h : TearsDown s) (p : Port)
include h

/-- Only user records are port-owned, so only they are orphans, retired or DRAINING. -/
theorem TearsDown.system_live {i : SlotNo} (hi : i.val < 20) {r : Record} (hr : s.slots[i].record = some r) :
    r.state = .live ∧ r.orphanOf p = false ∧ r.owner = .system := by
  obtain ⟨r', hr', hl, -, -, -, hown, -⟩ := h.systems.record hi
  rw [hr, Option.some.injEq] at hr'
  subst hr'
  refine ⟨hl, ?_, hown⟩
  simp only [Record.orphanOf, hown, reduceCtorEq, false_and, and_false, decide_false]

theorem TearsDown.user_of_retired {i : SlotNo} {r : Record} (hr : s.slots[i].record = some r) (hret : r.retiredBy p = true) :
    20 ≤ i.val := by
  by_contra hi
  have := (h.system_live p (Nat.lt_of_not_le hi) hr).2.1
  rw [(Record.retiredBy_iff.mp hret).1] at this
  cases this

/-- What the seven stages leave in a slot (R152 to R158). -/
theorem TearsDown.record (i : SlotNo) :
    (s.tornDown p).slots[i].record = s.slots[i].record.bind (s.recordTornDown p i) := by
  cases hr : s.slots[i].record with
  | none => exact h.free p hr
  | some r =>
    rw [Option.bind_some]
    by_cases hl : r.state = .live
    · cases hret : r.retiredBy p with
      | true => rw [(h.retired p (h.user_of_retired p hr hret) hr hret).1, recordTornDown_retired hl hret]
      | false =>
        rw [recordTornDown_live hl hret]
        by_cases hi : 20 ≤ i.val
        · exact (h.kept p hi hr hl hret).1
        · have ho := (h.system_live p (Nat.lt_of_not_le hi) hr).2.1
          rw [h.system p (Nat.lt_of_not_le hi) hr hl, settled_given_eq hl, ho]
          rfl
    · have hst := RecState.eq_draining hl
      have hi : 20 ≤ i.val := by
        by_contra hi
        exact hl (h.system_live p (Nat.lt_of_not_le hi) hr).1
      rw [congrArg Slot.record (h.drained p hi hr hst), attended_draining p h.ordered h.draining hr hst,
        recordTornDown_draining hst]

/-- What the seven stages leave of a pin (R28, R121, R157). -/
theorem TearsDown.pin (g : Pin) : (s.tornDown p).pins[g] = s.pinTornDown p s.pins[g] := by
  have h3 : (s.attended p).pins[g] = s.pins[g] := by rw [attended_pins]
  cases hb : s.pins[g].binding with
  | none =>
    have hfree : ∀ t : State, t.pins[g] = s.pins[g] → ∀ b ∈ t.pins[g].binding, False := by
      intro t ht b hb'
      rw [ht, hb] at hb'
      cases hb'
    have h4 := ((h.departed_acts p).pin g fun b hb' _ => hfree _ h3 b hb').trans h3
    have h5 := ((h.orphaned_acts p).pin g fun b hb' _ => hfree _ h4 b hb').trans h4
    exact (((tornDown_acts s p).pin g fun b hb' _ => hfree _ h5 b hb').trans h5).trans (pinTornDown_free hb).symm
  | some b =>
    have hi : 20 ≤ b.slot.val := h.systems.2.1 g b hb
    obtain ⟨r, hr, hl, -, -⟩ := (h.bindings.1 g b hb).record
    rw [pinTornDown_bound hb hr]
    cases hret : r.retiredBy p with
    | true => exact ((h.retired p hi hr hret).2 g b hb rfl).trans (if_pos rfl).symm
    | false => exact ((h.kept p hi hr hl hret).2 g b hb rfl).trans (if_neg Bool.noConfusion).symm

/-! ## Indications -/

theorem TearsDown.framed : Framed s (s.tornDown p) :=
  (((attended_acts p h.ordered h.draining).framed.trans (h.departed_acts p).framed).trans (h.orphaned_acts p).framed).trans
    (tornDown_acts s p).framed

/-- The indications that the stages come to owe. -/
theorem TearsDown.owes (q : Port) :
    (s.tornDown p).owes q ↔ s.owes q ∨ PendingSetDiffers s (s.attended p) q
      ∨ PendingSetDiffers (s.attended p) (s.departed p) q ∨ PendingSetDiffers (s.departed p) (s.orphaned p) q
      ∨ PendingSetDiffers (s.orphaned p) (s.tornDown p) q := by
  rw [(tornDown_acts s p).owes, (h.orphaned_acts p).owes, (h.departed_acts p).owes,
    (attended_acts p h.ordered h.draining).owes]
  simp only [or_assoc]

omit h in
theorem PendingSetDiffers.via {s t u : State} {q : Port} (h : PendingSetDiffers s u q) :
    PendingSetDiffers s t q ∨ PendingSetDiffers t u q := by
  obtain ⟨i, hi⟩ := h
  by_cases e : isPending (s.subAt i q) = isPending (t.subAt i q)
  · exact .inr ⟨i, by rw [← e]; exact hi⟩
  · exact .inl ⟨i, e⟩

/-- Every port whose pending set differs is owed an indication. -/
theorem TearsDown.owes_of_differs {q : Port} (hd : PendingSetDiffers s (s.tornDown p) q) : (s.tornDown p).owes q := by
  rw [h.owes]
  refine .inr ?_
  rcases hd.via (t := s.attended p) with hd | hd
  · exact .inl hd
  · rcases hd.via (t := s.departed p) with hd | hd
    · exact .inr (.inl hd)
    · exact .inr (.inr (hd.via (t := s.orphaned p)))

/-- A sweep that touches a pending mark stands as the teardown leaves it, unless RETIRE takes the record after it. -/
theorem TearsDown.swept_mark (i : SlotNo) {q : Port} (hq : q ≠ p)
    (hne : isPending ((s.departed p).subAt i q) ≠ isPending ((s.attended p).subAt i q)) :
    isPending ((s.tornDown p).subAt i q) = isPending ((s.departed p).subAt i q)
      ∨ ∃ r, s.slots[i].record = some r ∧ r.retiredBy p = true ∧ s.valueTornDown p i r ≠ r.value
          ∧ (r.subs[q]).isSome = true := by
  have hrec := (h.departed_gives p i).record
  cases hx : (s.attended p).slots[i].record with
  | none =>
    rw [hx] at hrec
    exact absurd (by simp only [State.subAt, hrec, hx, Option.map_none]) hne
  | some x =>
    obtain ⟨r, hr, ⟨hl, hxr⟩ | ⟨hst, hxr⟩⟩ := attended_some p h.ordered h.draining hx
    · have h4 := h.departed_live p hr hl
      have hchange : s.sweptValue p i r ≠ r.value := fun c => hne (by
        rw [Record.given_same (c.trans (r.settledFor_value p).symm)] at h4
        simp only [State.subAt, h4, hx, hxr])
      by_cases hi : 20 ≤ i.val
      · have hval := (sweptValue_or (s := s) (p := p) hi hl).resolve_left hchange
        cases hret : r.retiredBy p with
        | true =>
          refine .inr ⟨r, hr, hret, by rw [hval]; exact hchange, ?_⟩
          by_contra hnone
          rw [Option.not_isSome_iff_eq_none] at hnone
          refine hne ?_
          have hsub : (r.settledFor p).subs[q] = none := by rw [Record.settledFor_sub p r hq, hnone]
          simp only [State.subAt, h4, hx, hxr, Record.given_sub, hsub, Option.map_none, ite_self]
        | false =>
          have h6 := (h.kept p hi hr hl hret).1
          rw [hval] at h6
          exact .inl (by simp only [State.subAt, h4, h6])
      · have hi := Nat.lt_of_not_le hi
        have hval := (h.system_values p hi hr (Record.given (fun q => (s.attended p).inService q i) (s.sweptValue p i r)
          (r.settledFor p)) (Record.given_value _ _ _)).2.resolve_left hchange
        have h6 := h.system p hi hr hl
        rw [hval] at h6
        exact .inl (by simp only [State.subAt, h4, h6])
    · have hi : 20 ≤ i.val := by
        by_contra hi
        rw [(h.system_live p (Nat.lt_of_not_le hi) hr).1] at hst
        cases hst
      have hspared : (s.attended p).sweptValue p i x = x.value := sweptValue_spared hi fun c => by
        rw [hxr, hst] at c
        cases c.1
      rw [hx, Option.map_some, Record.given_same hspared] at hrec
      exact absurd (by simp only [State.subAt, hrec, hx]) hne

/-- Stages 5 and 6 touch no slot both. -/
theorem TearsDown.late_marks (i : SlotNo) (q : Port) :
    isPending ((s.orphaned p).subAt i q) = isPending ((s.departed p).subAt i q)
      ∨ isPending ((s.tornDown p).subAt i q) = isPending ((s.orphaned p).subAt i q) := by
  by_cases hi : 20 ≤ i.val
  · exact .inr (congrArg isPending (subAt_congr (congrArg Slot.record (tornDown_user s p hi).slot) q))
  · exact .inl (by rw [(h.orphaned_acts p).subAt hi])

/-- Another port is owed an indication where its pending set differs, or where a record it had subscribed to was returned to
its default and then retired. -/
theorem TearsDown.differs_of_owes {q : Port} (hq : q ≠ p) (hs : ¬ s.owes q) (ho : (s.tornDown p).owes q) :
    PendingSetDiffers s (s.tornDown p) q
      ∨ ∃ (i : SlotNo) (r : Record), s.slots[i].record = some r ∧ r.retiredBy p = true ∧ s.valueTornDown p i r ≠ r.value
          ∧ (r.subs[q]).isSome = true := by
  have h3 : ∀ i, isPending (s.subAt i q) = isPending ((s.attended p).subAt i q) := fun i =>
    (attended_pending p h.ordered h.draining i hq).symm
  have hlate : ∀ i, isPending ((s.departed p).subAt i q) ≠ isPending ((s.tornDown p).subAt i q) →
      PendingSetDiffers s (s.tornDown p) q
        ∨ ∃ (i : SlotNo) (r : Record), s.slots[i].record = some r ∧ r.retiredBy p = true ∧ s.valueTornDown p i r ≠ r.value
            ∧ (r.subs[q]).isSome = true := by
    intro i hi
    by_cases h4 : isPending ((s.departed p).subAt i q) = isPending ((s.attended p).subAt i q)
    · exact .inl ⟨i, by rw [h3, ← h4]; exact hi⟩
    · rcases h.swept_mark p i hq h4 with e | hret
      · exact absurd e.symm hi
      · exact .inr ⟨i, hret⟩
  rcases (h.owes p q).mp ho with ho | ⟨i, hi⟩ | ⟨i, hi⟩ | ⟨i, hi⟩ | ⟨i, hi⟩
  · exact absurd ho hs
  · exact absurd (h3 i) hi
  · rcases h.swept_mark p i hq (Ne.symm hi) with e | hret
    · exact .inl ⟨i, by rw [h3, e]; exact hi⟩
    · exact .inr ⟨i, hret⟩
  · rcases h.late_marks p i q with e | e
    · exact absurd e.symm hi
    · exact hlate i (by rw [e]; exact hi)
  · rcases h.late_marks p i q with e | e
    · exact hlate i (by rw [← e]; exact hi)
    · exact absurd e.symm hi

/-! ## Timers, services and domains -/

theorem TearsDown.services : (s.tornDown p).services = s.services.set p Service.cold := by
  rw [State.tornDown, State.settleSystemRecords, State.setValue_services, State.setValue_services, h.orphaned_services,
    attended_services]

theorem TearsDown.deadline (q : Port) (k : Prio) :
    (s.tornDown p).deadlines[q][k]
      = (s.deadlines[q][k]).stoppedIf
          (decide (q = p) && s.services[p].list.any fun e => (s.subAt e.slot p).any (timedAt k)) := by
  have : (s.tornDown p).deadlines = (s.dropService p).deadlines := by
    rw [State.tornDown, State.settleSystemRecords, State.setValue_deadlines, State.setValue_deadlines, State.orphaned,
      orphanRecords_deadlines, State.departed, leaveAwaited_deadlines, attended_deadlines]
  rw [this]
  exact dropEntries_deadlines _ (h.ordered.slotsApart p) s q k

theorem TearsDown.domain (d : Dom) :
    ((s.tornDown p).domains[d], (s.tornDown p).warnings[d]) = s.domainTornDown p d := by
  have hdom : (s.tornDown p).domains = (s.departed p).domains := by
    rw [State.tornDown, State.settleSystemRecords, State.setValue_domains, State.setValue_domains, State.orphaned,
      orphanRecords_domains]
  have hwarn : (s.tornDown p).warnings = (s.departed p).warnings := by
    rw [State.tornDown, State.settleSystemRecords, State.setValue_warnings, State.setValue_warnings, State.orphaned,
      orphanRecords_warnings]
  rw [hdom, hwarn, State.departed, leaveAwaited_domain p (h.attended_onward p)]
  unfold State.domainTornDown State.lastAwaited
  rw [attended_domains, attended_warnings]

end teardown

/-! ## The request -/

/-- The engine takes a teardown request: nothing but the request's flag, or the request chosen, differs. -/
theorem State.taken_teardown (s : State) (p : Port) :
    ∃ ports taking, s.taken (.teardown p) = { s with ports := ports, taking := taking }
      ∧ (∀ q : Port, q ≠ p → ports[q] = s.ports[q]) ∧ (ports[p]).link = s.ports[p].link := by
  unfold State.taken
  split
  · exact ⟨s.ports, none, rfl, fun _ _ => rfl, rfl⟩
  · refine ⟨(s.clearFlag (.teardown p)).ports, s.taking, rfl, fun q hq => ?_, ?_⟩
    · exact (State.modPort_get s p q _).trans (if_neg hq)
    · have hport := State.modPort_get s p p fun q => { q with teardown := false }
      rw [if_pos rfl] at hport
      exact (congrArg PortState.link hport :)

section alike
variable {s : State} {p : Port} {ports : Vector PortState 6} {taking : Option Taking}

/-- What a teardown leaves of values, records and pins does not depend on the request's own flag. -/
theorem valueTornDown_taken (hl : (ports[p]).link = s.ports[p].link) (i : SlotNo) (r : Record) :
    State.valueTornDown { s with ports := ports, taking := taking } p i r = s.valueTornDown p i r := by
  unfold State.valueTornDown
  rw [hl]
  rfl

theorem recordTornDown_taken (hl : (ports[p]).link = s.ports[p].link) (i : SlotNo) (r : Record) :
    State.recordTornDown { s with ports := ports, taking := taking } p i r = s.recordTornDown p i r := by
  unfold State.recordTornDown
  rw [valueTornDown_taken hl]
  rfl

theorem pinTornDown_taken (hl : (ports[p]).link = s.ports[p].link) (x : PinState) :
    State.pinTornDown { s with ports := ports, taking := taking } p x = s.pinTornDown p x := by
  unfold State.pinTornDown
  simp only [valueTornDown_taken hl]

end alike

/-! ## The happening -/

section happening
variable {s : State} (p : Port)

/-- All of the part that a teardown and the indications after it leave. -/
theorem TearsDown.frame (h : TearsDown s) {t : State} (ht : (s.teardown p).sendIndications = t) :
    t = { s with deadlines := t.deadlines, warnings := t.warnings, slots := t.slots, idMap := t.idMap
                 services := t.services, domains := t.domains, pins := t.pins, ports := t.ports } := by
  have hrest := (h.framed p).rest
  rw [teardown_eq] at ht
  subst ht
  generalize s.tornDown p = m at hrest
  obtain ⟨dl, wn, sl, im, sv, dm, pn, po, rfl⟩ : ∃ dl wn sl im sv dm pn po,
      m = { s with deadlines := dl, warnings := wn, slots := sl, idMap := im, services := sv, domains := dm, pins := pn
                   ports := po } := ⟨_, _, _, _, _, _, _, _, hrest⟩
  rfl

theorem teardown_slots (s : State) : (s.teardown p).sendIndications.slots = (s.tornDown p).slots := by
  rw [State.sendIndications_slots, teardown_eq, State.completeTeardown, State.owe_slots, State.modPort_slots]

theorem teardown_pins (s : State) : (s.teardown p).sendIndications.pins = (s.tornDown p).pins := by
  rw [State.sendIndications_pins, teardown_eq, State.completeTeardown, State.owe_pins, State.modPort_pins]

theorem teardown_services (s : State) : (s.teardown p).sendIndications.services = (s.tornDown p).services := by
  rw [State.sendIndications_services, teardown_eq, State.completeTeardown, State.owe_services, State.modPort_services]

theorem teardown_deadlines (s : State) : (s.teardown p).sendIndications.deadlines = (s.tornDown p).deadlines := by
  rw [State.sendIndications_deadlines, teardown_eq, State.completeTeardown, State.owe_deadlines, State.modPort_deadlines]

theorem teardown_domains (s : State) : (s.teardown p).sendIndications.domains = (s.tornDown p).domains := by
  rw [State.sendIndications_domains, teardown_eq, State.completeTeardown, State.owe_domains, State.modPort_domains]

theorem teardown_warnings (s : State) : (s.teardown p).sendIndications.warnings = (s.tornDown p).warnings := by
  rw [State.sendIndications_warnings, teardown_eq, State.completeTeardown, State.owe_warnings, State.modPort_warnings]

theorem TearsDown.left_services (h : TearsDown s) :
    (s.teardown p).sendIndications.services = s.services.set p Service.cold := by
  rw [teardown_services]
  exact h.services p

theorem TearsDown.left_deadline (h : TearsDown s) (q : Port) (k : Prio) :
    (s.teardown p).sendIndications.deadlines[q][k]
      = (s.deadlines[q][k]).stoppedIf
          (decide (q = p) && s.services[p].list.any fun e => (s.subAt e.slot p).any (timedAt k)) := by
  simp only [teardown_deadlines]
  exact h.deadline p q k

theorem TearsDown.left_domain (h : TearsDown s) (d : Dom) :
    ((s.teardown p).sendIndications.domains[d], (s.teardown p).sendIndications.warnings[d]) = s.domainTornDown p d := by
  simp only [teardown_domains, teardown_warnings]
  exact h.domain p d

theorem TearsDown.left_pin (h : TearsDown s) (g : Pin) :
    (s.teardown p).sendIndications.pins[g] = s.pinTornDown p s.pins[g] := by
  simp only [teardown_pins]
  exact h.pin p g

/-- Stage 7 at the ports: p's completion, and the indications on their way (R159). -/
theorem TearsDown.port (h : TearsDown s) (q : Port) :
    (s.teardown p).sendIndications.ports[q]
      = if q = p then
          { s.ports[q] with inCompletion := true, inIndication := (s.teardown p).sendIndications.ports[q].inIndication }
        else { s.ports[q] with inIndication := (s.teardown p).sendIndications.ports[q].inIndication } := by
  have hstand := (h.framed p).ports q
  rw [State.sendIndications_get, teardown_eq]
  simp only [completeTeardown_port]
  split
  · next hq =>
    subst hq
    rw [hstand]
  · rw [hstand]

/-- p is owed an indication, and every port that the stages owe one. -/
theorem teardown_owes (s : State) (q : Port) : (s.teardown p).owes q ↔ q = p ∨ (s.tornDown p).owes q := by
  unfold State.owes
  rw [teardown_eq]
  simp only [completeTeardown_port]
  split
  · next hq => exact ⟨fun _ => .inl hq, fun _ => rfl⟩
  · next hq => exact ⟨.inr, fun e => e.resolve_left hq⟩

/-- Pending sets are read from the slots. -/
theorem pendingSetDiffers_congr {s t u : State} (h : u.slots = t.slots) (q : Port) :
    PendingSetDiffers s u q ↔ PendingSetDiffers s t q := by
  have hsub : ∀ i, u.subAt i q = t.subAt i q := fun i => subAt_congr (by rw [h]) q
  simp only [PendingSetDiffers, hsub]

theorem teardown_differs (s : State) (q : Port) :
    PendingSetDiffers s (s.teardown p).sendIndications q ↔ PendingSetDiffers s (s.tornDown p) q :=
  pendingSetDiffers_congr (teardown_slots p s) q

theorem TearsDown.indicationsSent (h : TearsDown s) : IndicationsSent s (s.teardown p).sendIndications [p] := by
  have hslots : (s.teardown p).slots = (s.tornDown p).slots := by
    rw [← State.sendIndications_slots, teardown_slots]
  refine .of_owes (m := s.teardown p) (State.sendIndications_slots _) (State.sendIndications_indication _) fun q hq => ?_
  rw [teardown_owes]
  rcases hq with hd | hq
  · exact .inr (h.owes_of_differs p ((pendingSetDiffers_congr hslots q).mp hd))
  · exact .inl (List.mem_singleton.mp hq)

theorem TearsDown.indicated (h : TearsDown s) (hs : ∀ q, ¬ s.owes q) {q : Port}
    (hq : (s.teardown p).sendIndications.ports[q].inIndication.isSome = true) :
    q = p ∨ PendingSetDiffers s (s.teardown p).sendIndications q
      ∨ ∃ (i : SlotNo) (r : Record), s.slots[i].record = some r ∧ r.retiredBy p = true ∧ s.valueTornDown p i r ≠ r.value
          ∧ (r.subs[q]).isSome = true := by
  rw [State.sendIndications_indication, Option.isSome_map] at hq
  by_cases hp : q = p
  · exact .inl hp
  · rw [teardown_differs]
    exact .inr (h.differs_of_owes p hp (hs q) (((teardown_owes p s q).mp hq).resolve_left hp))

theorem TearsDown.idMapExact (h : IdMapExact s) : IdMapExact (s.teardown p).sendIndications :=
  (Stands.sendIndications _).moves.keep (fun _ _ => Move.idMapExact) ((Moves.teardown s p).keep (fun _ _ => Move.idMapExact) h)

theorem TearsDown.slot (h : TearsDown s) (i : SlotNo) :
    (s.teardown p).sendIndications.slots[i]
      = { gen := s.slots[i].gen, record := s.slots[i].record.bind (s.recordTornDown p i) } := by
  have hgen : (s.teardown p).sendIndications.slots[i].gen = s.slots[i].gen :=
    ((Moves.teardown s p).trans (Stands.sendIndications _).moves).gen i
  have hrec : (s.teardown p).sendIndications.slots[i].record = s.slots[i].record.bind (s.recordTornDown p i) := by
    rw [teardown_slots]
    exact h.record p i
  rw [← hgen, ← hrec]

end happening

/-- Settles O23: the teardown by its stages, of the state in which nothing but the request's taking has come about. -/
theorem teardownSettlesThePort : Obligations.TeardownSettlesThePort := by
  intro s p hc hsys hord hbind hdrain hids
  have hquiet := State.quiet_spec s (State.choice_quiet s hc)
  obtain ⟨ports, taking, hm, hports, hlink⟩ := State.taken_teardown s p
  have hdel := fun q => (State.taken_deliveries s (.teardown p) q).2.1
  have hrow : exec (.teardownRequest p) s = execTeardownRequest p s := rfl
  have hexec : exec (.teardownRequest p) s = .next ((s.taken (.teardown p)).teardown p).sendIndications := by
    rw [hrow, execTeardownRequest, State.takeInternal_takes s hc (act := fun t => t.teardown p) (if_pos rfl)]
  refine ⟨_, s.taken (.teardown p), hexec, rfl, ?_⟩
  rw [hm] at hdel ⊢
  have h : TearsDown { s with ports := ports, taking := taking } := ⟨hsys hquiet.1, hord, hbind, hdrain⟩
  have hnone : ∀ q, ¬ State.owes { s with ports := ports, taking := taking } q := fun q => by
    rw [State.owes, hdel q, (hquiet.2.2 q).2.1]
    exact Bool.noConfusion
  have hservices := h.left_services p
  have hdeadline := h.left_deadline p
  have hdomain := h.left_domain p
  have hpin := h.left_pin p
  have hslot := h.slot p
  have hids := TearsDown.idMapExact (s := { s with ports := ports, taking := taking }) p hids
  have hport := h.port p
  have hsent := h.indicationsSent p
  have hindicated := fun q => h.indicated p hnone (q := q)
  generalize ht : (State.teardown { s with ports := ports, taking := taking } p).sendIndications = t at *
  refine ⟨h.frame p ht, hservices, fun q k => ?_, hdomain, fun i => ?_, hids, fun g => ?_, fun q => ?_, hsent, fun q hq => ?_⟩
  · refine (hdeadline q k).trans (DeadlineUnit.stoppedIf_eq ?_ _)
    rw [Bool.and_eq_true, decide_eq_true_eq]
    exact Iff.rfl
  · rw [hslot]
    cases hr : s.slots[i].record with
    | none => rfl
    | some r => simp only [Option.bind_some, recordTornDown_taken hlink]
  · rw [hpin]
    exact pinTornDown_taken hlink _
  · rw [hport]
    split
    · next hq => rfl
    · next hq =>
      dsimp only
      rw [hports q hq]
  · have := hindicated q hq
    simp only [valueTornDown_taken hlink] at this
    exact this

end Sys2Proof.Machine
end

section
/-! The commands of Chapter 2 as they are answered: SET and SET_IF, RAISE, READ and READ_GROUP (R31 to R39); and the change that
a command makes as its whole effect (R25, R28). -/

namespace Sys2Proof.Machine

open Sys2Proof

/-! ## What one change leaves -/

section change
variable {s : State} {i : SlotNo} {r : Record} (v : Byte) (n : Nat)

/-- A record that makes a change holds the new value. -/
theorem State.change_valueAt_self (hr : s.slots[i].record = some r) : (s.change i v n).valueAt i = v := by
  rw [State.change_valueAt, if_pos ⟨rfl, by rw [hr]; rfl⟩]

theorem State.change_versionAt_self (hr : s.slots[i].record = some r) : (s.change i v n).versionAt i = r.version + 1 := by
  rw [State.versionAt, State.change_record, if_pos rfl, hr]
  rfl

theorem State.change_versionAt_other {j : SlotNo} (hj : j ≠ i) : (s.change i v n).versionAt j = s.versionAt j := by
  rw [State.versionAt, State.change_record, if_neg hj]
  rfl

/-- A version that advances differs, also where it wraps (R26). -/
theorem version_advances (w : Half) : w + 1 ≠ w := by bv_omega

theorem State.change_slotChanged (hr : s.slots[i].record = some r) : SlotChanged s (s.change i v n) i v n := by
  unfold SlotChanged
  rw [State.change_get, if_pos rfl, hr]
  rfl

/-- The OUTPUT pin of the changed record follows it: of all the versions, the change advances that record's alone (R28). -/
theorem State.change_pinsFollow (hr : s.slots[i].record = some r) : PinsFollow s (s.change i v n) := by
  intro g
  rw [State.change_pin, hr]
  cases hb : s.pins[g].binding with
  | none => rfl
  | some b =>
    by_cases hi : b.slot = i
    · have hadvanced : (s.change i v n).versionAt i ≠ s.versionAt i := by
        rw [State.change_versionAt_self v n hr, State.versionAt, hr]
        exact version_advances r.version
      simp only [hi, hadvanced, State.change_valueAt_self v n hr, Option.isSome_some, ne_eq, not_false_eq_true]
    · have hunbound : s.boundPin i ≠ some g := fun hbound => by
        obtain ⟨c, hc, hci⟩ := State.boundPin_some s hbound
        rw [hb, Option.some.injEq] at hc
        exact hi (hc ▸ hci)
      simp only [hunbound, State.change_versionAt_other v n hi, ne_eq, not_true_eq_false, and_false, false_and, if_false]

end change

/-! ## A command whose effect is one change -/

section takes
variable {s : State} {p : Port} {tag : Byte} {c : Command} {rest : List Queued}

/-- The answered state with one change made to it, and the indications of that change sent. -/
theorem Takes.oneChange (h : Takes s p tag c rest) {i : SlotNo} {r : Record} (hr : s.slots[i].record = some r) (v : Byte)
    (n : Nat) (a : Answer) :
    OneChange (s.answered p rest a) (((s.serving p ⟨tag, c⟩).change i v n).sendAnswer p a).sendIndications i v n := by
  have hquiet : ∀ q, ¬ (s.serving p ⟨tag, c⟩).owes q := fun q => by
    rw [State.owes, h.serving_indication]
    exact Bool.noConfusion
  have hr' : (s.serving p ⟨tag, c⟩).slots[i].record = some r := by rwa [h.serving_slots]
  have hacts := ActsOn.change (s.serving p ⟨tag, c⟩) i v n
  have hslot := State.change_slotChanged v n hr'
  have hpins := State.change_pinsFollow v n hr'
  have hidMap : ((s.serving p ⟨tag, c⟩).change i v n).idMap = s.idMap := by rw [State.change_idMap, h.serving_idMap]
  have hframe := h.ends_frame (m := (s.serving p ⟨tag, c⟩).change i v n)
    (by rw [State.change_idMap]; exact State.change_frame _ i v n) a
  obtain ⟨hports, hindications⟩ := h.ends (m := (s.serving p ⟨tag, c⟩).change i v n) hacts.ports a (owed := []) fun q => by
    have hsub : ∀ j, (s.serving p ⟨tag, c⟩).subAt j q = s.subAt j q := fun j => subAt_congr (by rw [h.serving_slots]) q
    simp only [hacts.owes, hquiet, false_or, PendingSetDiffers, hsub, List.not_mem_nil, or_false]
  have hothers : ∀ j : SlotNo, j ≠ i → ((s.serving p ⟨tag, c⟩).change i v n).slots[j] = s.slots[j] := fun j hj => by
    rw [hacts.slot j hj, h.serving_slots]
  have hserving := h.serving
  generalize (s.serving p ⟨tag, c⟩).change i v n = m at *
  generalize s.serving p ⟨tag, c⟩ = b at *
  subst hserving
  exact ⟨hframe.trans (by rw [hidMap]; rfl), hslot, fun j hj => hothers j fun e => hj (List.mem_singleton.mpr e), hpins,
    hports, hindications⟩

/-- A command whose own part is one change leaves the answered state with that change made. -/
theorem Takes.changes {act : Command → Option (State → Done)} {f : State → Done} (h : Takes s p tag c rest)
    (ha : act c = some f) {i : SlotNo} {r : Record} (hr : s.slots[i].record = some r) {v : Byte} {n : Nat} {status : Status}
    {fields : List Byte}
    (hf : f (s.serving p ⟨tag, c⟩)
      = { state := (s.serving p ⟨tag, c⟩).change i v n, status := status, fields := fields }) :
    OneChange (s.answered p rest { tag := tag, code := c.opcode, status := status, fields := fields }) (s.takeCommand p act)
      i v n := by
  rw [State.takeCommand_takes s h ha, hf]
  exact h.oneChange hr v n _

theorem Takes.serving_writeRefusal (h : Takes s p tag c rest) (k : Kind) (r : Record) :
    (s.serving p ⟨tag, c⟩).writeRefusal p k r = s.writeRefusal p k r := by
  have hheld : (s.serving p ⟨tag, c⟩).domainHeld r.domain = s.domainHeld r.domain := by
    simp only [State.domainHeld, h.serving_domains]
  simp only [State.writeRefusal, hheld]

end takes

/-! ## The checks of a write (Table 2-2) -/

section refusal
variable {s : State} {p : Port} {k : Kind} {r : Record}

theorem State.writeRefusal_kind (hk : r.kind ≠ k) : s.writeRefusal p k r = some .badParam := if_pos hk

theorem State.writeRefusal_locked (hk : r.kind = k) (hl : r.locked = true) : s.writeRefusal p k r = some .locked := by
  rw [State.writeRefusal, if_neg (not_not.mpr hk), if_pos hl]

theorem State.writeRefusal_owner (hk : r.kind = k) (hl : r.locked = false) (ho : r.owner ≠ .port p) :
    s.writeRefusal p k r = some .notOwner := by
  rw [State.writeRefusal, if_neg (not_not.mpr hk), if_neg (Bool.eq_false_iff.mp hl), if_pos ho]

/-- With kind, lock and owner in order, the domain alone decides. -/
theorem State.writeRefusal_domain (hk : r.kind = k) (hl : r.locked = false) (ho : r.owner = .port p) :
    s.writeRefusal p k r = if s.domainHeld r.domain = true then some .domainHeld else none := by
  rw [State.writeRefusal, if_neg (not_not.mpr hk), if_neg (Bool.eq_false_iff.mp hl), if_neg (not_not.mpr ho)]

theorem State.writeRefusal_held (hk : r.kind = k) (hl : r.locked = false) (ho : r.owner = .port p)
    (hd : s.domainHeld r.domain = true) : s.writeRefusal p k r = some .domainHeld := by
  rw [State.writeRefusal_domain hk hl ho, if_pos hd]

theorem State.writeRefusal_passes (hk : r.kind = k) (hl : r.locked = false) (ho : r.owner = .port p)
    (hd : s.domainHeld r.domain = false) : s.writeRefusal p k r = none := by
  rw [State.writeRefusal_domain hk hl ho, if_neg (Bool.eq_false_iff.mp hd)]

end refusal

/-! ## SET and SET_IF -/

/-- What a write to a LEVEL record comes to once nothing refuses it: CONFLICT where a version is expected
and another stands, else the writing of the value (R34, R35). -/
def State.versionedWrite (s : State) (i : SlotNo) (r : Record) (v : Byte) (expected : Option Half) : Done :=
  match expected with
  | none => s.writeValue i r v
  | some e =>
    if r.version ≠ e then { state := s, status := .conflict, fields := r.value :: halfBytes r.version }
    else s.writeValue i r v

/-- The part of SET, which expects no version, and of SET_IF that follows the handle check, by its checks in order. -/
def State.levelWrite (s : State) (p : Port) (i : SlotNo) (r : Record) (v : Byte) (expected : Option Half) : Done :=
  if isSystemSlot i then refuse s .denied
  else
    match s.writeRefusal p .level r with
    | some e => refuse s e
    | none => s.versionedWrite i r v expected

section level
variable {s : State} {p : Port} {h : Handle} {i : SlotNo} {r : Record} {v : Byte} {expected : Option Half}

theorem State.set_eq (hn : Names s h i r) (hl : r.state = .live) (v : Byte) : s.set p h v = s.levelWrite p i r v none :=
  State.withHandle_names hn hl _

theorem State.setIf_eq (hn : Names s h i r) (hl : r.state = .live) (e : Half) (v : Byte) :
    s.setIf p h e v = s.levelWrite p i r v (some e) :=
  State.withHandle_names hn hl _

theorem State.levelWrite_system (hi : i.val < 20) : s.levelWrite p i r v expected = refuse s .denied :=
  if_pos (isSystemSlot_of_lt hi)

theorem State.levelWrite_refused (hi : 20 ≤ i.val) {e : Status} (hw : s.writeRefusal p .level r = some e) :
    s.levelWrite p i r v expected = refuse s e := by
  rw [State.levelWrite, if_neg (not_system_of_le hi), hw]

theorem State.levelWrite_passes (hi : 20 ≤ i.val) (hw : s.writeRefusal p .level r = none) :
    s.levelWrite p i r v expected = s.versionedWrite i r v expected := by
  rw [State.levelWrite, if_neg (not_system_of_le hi), hw]

theorem State.versionedWrite_conflict (he : expected.any (fun e => r.version ≠ e) = true) :
    s.versionedWrite i r v expected = { state := s, status := .conflict, fields := r.value :: halfBytes r.version } := by
  cases expected with
  | none => exact absurd he Bool.noConfusion
  | some e => exact if_pos (of_decide_eq_true he)

/-- The version stands, where one is expected. -/
theorem State.versionedWrite_expected (he : expected.all (fun e => r.version = e) = true) :
    s.versionedWrite i r v expected = s.writeValue i r v := by
  cases expected with
  | none => rfl
  | some e => exact if_neg (not_not.mpr (of_decide_eq_true he))

theorem State.writeValue_held (hv : r.value = v) :
    s.writeValue i r v = { state := s, status := .unchanged, fields := halfBytes r.version } := if_pos hv

theorem State.writeValue_differs (hr : s.slots[i].record = some r) (hv : r.value ≠ v) :
    s.writeValue i r v = { state := s.change i v 0, status := .ok, fields := halfBytes (r.version + 1) } := by
  rw [← State.change_versionAt_self v 0 hr]
  exact if_neg hv

end level

/-- The row of SET or SET_IF takes the command, whose own part on a LIVE record is the checked write. -/
theorem levelWrite_row {s : State} {p : Port} {tag : Byte} {h : Handle} {v : Byte} {rest : List Queued} {i : SlotNo} {r : Record}
    {c : Command} {o : Opcode} {expected : Option Half}
    (hc : c = .set h v ∧ o = .set ∧ expected = none ∨ ∃ e, c = .setIf h e v ∧ o = .setIf ∧ expected = some e)
    (ht : Takes s p tag c rest) (hn : Names s h i r) (hl : r.state = .live) :
    ∃ act f, exec (rowOf p none o) s = .next (s.takeCommand p act) ∧ act c = some f ∧ c.opcode = o
      ∧ f (s.serving p ⟨tag, c⟩) = (s.serving p ⟨tag, c⟩).levelWrite p i r v expected := by
  rcases hc with ⟨rfl, rfl, rfl⟩ | ⟨e, rfl, rfl, rfl⟩
  · exact ⟨_, fun t => t.set p h v, rfl, rfl, rfl, State.set_eq (ht.names hn) hl v⟩
  · exact ⟨_, fun t => t.setIf p h e v, rfl, rfl, rfl, State.setIf_eq (ht.names hn) hl e v⟩

/-- Settles O31: both commands are one checked write, whose outcomes follow its checks in order. -/
theorem levelWriteOutcomes : Obligations.LevelWriteOutcomes := by
  intro s p tag h v rest i r c o expected hc ht hn hl
  obtain ⟨act, f, hrow, ha, rfl, hf⟩ := levelWrite_row hc ht hn hl
  have hr : (s.serving p ⟨tag, c⟩).slots[i].record = some r := (ht.names hn).2.2
  have hrefused : ∀ e, 20 ≤ i.val → s.writeRefusal p .level r = some e →
      exec (rowOf p none c.opcode) s = s.bare p tag c.opcode rest e := fun e hi hw => by
    rw [← ht.serving_writeRefusal] at hw
    rw [hrow]
    exact ht.bare ha (hf.trans (State.levelWrite_refused hi hw))
  refine ⟨fun hi => ?_, fun hi => ⟨fun hk => ?_, fun hk hlock => ?_, fun hk hlock ho => ?_, fun hk hlock ho => ⟨fun hd => ?_,
    fun hd => ?_⟩⟩⟩
  · rw [hrow]
    exact ht.bare ha (hf.trans (State.levelWrite_system hi))
  · exact hrefused _ hi (State.writeRefusal_kind (by rw [hk]; exact Kind.noConfusion))
  · exact hrefused _ hi (State.writeRefusal_locked hk hlock)
  · exact hrefused _ hi (State.writeRefusal_owner hk hlock ho)
  · exact hrefused _ hi (State.writeRefusal_held hk hlock ho hd)
  · have hw := State.writeRefusal_passes hk hlock ho hd
    rw [← ht.serving_writeRefusal] at hw
    rw [State.levelWrite_passes hi hw] at hf
    rw [hrow]
    refine ⟨fun he => ?_, fun he => ?_⟩
    · exact congrArg _ (ht.reports ha (hf.trans (State.versionedWrite_conflict he)))
    · rw [State.versionedWrite_expected he] at hf
      exact ⟨fun hv => congrArg _ (ht.reports ha (hf.trans (State.writeValue_held hv))),
        fun hv => ⟨_, rfl, ht.changes ha hn.2.2 (hf.trans (State.writeValue_differs hr hv))⟩⟩

/-! ## RAISE -/

/-- The part of RAISE that follows the handle, system and amount checks (R36). -/
def State.addAmount (s : State) (p : Port) (i : SlotNo) (r : Record) (n : Byte) : Done :=
  match s.writeRefusal p .event r with
  | some e => refuse s e
  | none =>
    { state := s.change i (r.value + n) n.toNat
      status := .ok
      fields :=
        (s.change i (r.value + n) n.toNat).valueAt i :: halfBytes ((s.change i (r.value + n) n.toNat).versionAt i) }

section raise
variable {s : State} {p : Port} {h : Handle} {i : SlotNo} {r : Record} {n : Byte}

/-- RAISE on a LIVE record by its first checks. -/
theorem State.raise_eq (hn : Names s h i r) (hl : r.state = .live) (n : Byte) :
    s.raise p h n =
      if isSystemSlot i then refuse s .denied
      else if n.toNat < 1 ∨ 15 < n.toNat then refuse s .badParam
      else s.addAmount p i r n :=
  State.withHandle_names hn hl _

theorem State.addAmount_refused {e : Status} (hw : s.writeRefusal p .event r = some e) :
    s.addAmount p i r n = refuse s e := by
  rw [State.addAmount, hw]

theorem State.addAmount_passes (hr : s.slots[i].record = some r) (hw : s.writeRefusal p .event r = none) :
    s.addAmount p i r n
      = { state := s.change i (r.value + n) n.toNat, status := .ok, fields := (r.value + n) :: halfBytes (r.version + 1) } := by
  rw [State.addAmount, hw]
  dsimp only
  rw [State.change_valueAt_self _ _ hr, State.change_versionAt_self _ _ hr]

end raise

/-- Settles O32: the checks in their order, then the amount added as one change. -/
theorem raiseOutcomes : Obligations.RaiseOutcomes := by
  intro s p tag h n rest i r ht hn hl
  have hraise := State.raise_eq (p := p) (ht.names hn) hl n
  refine ⟨fun hi => ?_, fun hi => ?_⟩
  · rw [if_pos (isSystemSlot_of_lt hi)] at hraise
    exact ht.bare (f := fun t => t.raise p h n) rfl hraise
  rw [if_neg (not_system_of_le hi)] at hraise
  refine ⟨fun hamount => ?_, fun hlow hhigh => ?_⟩
  · rw [if_pos (by omega)] at hraise
    exact ht.bare (f := fun t => t.raise p h n) rfl hraise
  rw [if_neg (by omega)] at hraise
  have hrefused : ∀ e, s.writeRefusal p .event r = some e → exec (.raise p) s = s.bare p tag .raise rest e := fun e hw => by
    rw [← ht.serving_writeRefusal] at hw
    exact ht.bare (f := fun t => t.raise p h n) rfl (hraise.trans (State.addAmount_refused hw))
  refine ⟨fun hk => ?_, fun hk hlock => ?_, fun hk hlock ho => ?_, fun hk hlock ho => ⟨fun hd => ?_, fun hd => ?_⟩⟩
  · exact hrefused _ (State.writeRefusal_kind (by rw [hk]; exact Kind.noConfusion))
  · exact hrefused _ (State.writeRefusal_locked hk hlock)
  · exact hrefused _ (State.writeRefusal_owner hk hlock ho)
  · exact hrefused _ (State.writeRefusal_held hk hlock ho hd)
  · have hw := State.writeRefusal_passes hk hlock ho hd
    rw [← ht.serving_writeRefusal] at hw
    have hpasses := State.addAmount_passes (n := n) (ht.names hn).2.2 hw
    exact ⟨_, rfl, ht.changes (f := fun t => t.raise p h n) rfl hn.2.2 (hraise.trans hpasses)⟩

/-! ## READ and READ_GROUP -/

section read
variable {s : State} {h : Handle} {i : SlotNo} {r : Record}

/-- READ of a LIVE or DRAINING record (R37). -/
theorem State.read_eq (hn : Names s h i r) :
    s.read h = { state := s, status := .ok, fields := r.value :: halfBytes r.version ++ [ownerByte r.owner] } := by
  rw [State.read, State.withHandle, State.checkHandle_names s hn (.inr rfl)]

theorem slotOf_of_val {b : Byte} (h : b.toNat = i.val) : slotOf b = some i := by
  rw [slotOf, dif_pos (h ▸ i.isLt)]
  exact congrArg some (Fin.ext h)

/-- A slot number above 127 names no slot (R6). -/
theorem State.checkHandle_outOfRange (pass : Bool) (hb : 128 ≤ h.slot.toNat) : s.checkHandle pass h = .error .badParam := by
  rw [State.checkHandle_spec, dif_neg (Nat.not_lt.mpr hb)]

/-- A handle of a FREE slot, or of another generation, is stale (R6). -/
theorem State.checkHandle_stale (pass : Bool) (hi : h.slot.toNat = i.val)
    (hs : s.slots[i].record = none ∨ s.slots[i].gen ≠ h.gen) : s.checkHandle pass h = .error .stale := by
  rw [State.checkHandle, slotOf_of_val hi]
  dsimp only
  cases hr : s.slots[i].record with
  | none => rfl
  | some r => exact if_pos (hs.resolve_left (by rw [hr]; exact Option.some_ne_none r))

theorem State.readItem_error {e : Status} (hc : s.checkHandle true h = .error e) :
    s.readItem h = [statusByte e, 0#8, 0#8, 0#8] := by
  rw [State.readItem, hc]

theorem State.readItem_names (hn : Names s h i r) : s.readItem h = [0x00#8, r.value, hiByte r.version, loByte r.version] := by
  rw [State.readItem, State.checkHandle_names s hn (.inr rfl)]
  rfl

/-- READ_GROUP of 1 to 8 handles (R38). -/
theorem State.readGroup_eq {hs : List Handle} (hlow : 1 ≤ hs.length) (hhigh : hs.length ≤ 8) :
    s.readGroup hs = { state := s, status := .ok, fields := hs.flatMap s.readItem } :=
  if_neg (by omega)

/-- READ_GROUP of any other number of handles (R38). -/
theorem State.readGroup_badParam {hs : List Handle} (hlen : hs.length = 0 ∨ 9 ≤ hs.length) :
    s.readGroup hs = refuse s .badParam :=
  if_pos (by omega)

theorem Takes.serving_readItem {p : Port} {tag : Byte} {c : Command} {rest : List Queued} (ht : Takes s p tag c rest) :
    (s.serving p ⟨tag, c⟩).readItem = s.readItem := by
  funext h
  simp only [State.readItem, State.checkHandle, ht.serving_slots]

end read

/-- A list that agrees item by item with what a function gives holds its values in order. -/
theorem flatten_eq_flatMap {α β : Type} {f : α → List β} {as : List α} {items : List (List β)}
    (h : List.Forall₂ (fun a item => f a = item) as items) : items.flatten = as.flatMap f := by
  have hitems : as.map f = items := by
    rwa [← List.forall₂_map_left_iff (R := (· = ·)), List.forall₂_eq_eq_eq] at h
  rw [List.flatMap_def, hitems]

/-- Settles O33: READ by the handle check that lets a DRAINING record pass; READ_GROUP item by item. -/
theorem readsReport : Obligations.ReadsReport := by
  refine ⟨fun s p tag h rest i r ht hn => ?_, fun s p tag hs rest ht => ⟨fun hlen => ?_, fun hlow hhigh items hitems => ?_⟩⟩
  · exact congrArg Host.Outcome.next
      (ht.reports (act := fun | .read h => some fun t => t.read h | _ => none) rfl (State.read_eq (ht.names hn)))
  · exact ht.bare (f := fun t => t.readGroup hs) rfl (State.readGroup_badParam hlen)
  · have hitem : List.Forall₂ (fun h item => s.readItem h = item) hs items := by
      refine hitems.imp fun h item hcase => ?_
      rcases hcase with ⟨hb, rfl⟩ | ⟨i, hi, hstale, rfl⟩ | ⟨i, r, hn, rfl⟩
      · exact State.readItem_error (State.checkHandle_outOfRange true hb)
      · exact State.readItem_error (State.checkHandle_stale true hi hstale)
      · exact State.readItem_names hn
    have hgroup := State.readGroup_eq (s := s.serving p ⟨tag, .readGroup hs⟩) hlow hhigh
    rw [ht.serving_readItem, ← flatten_eq_flatMap hitem] at hgroup
    exact congrArg Host.Outcome.next
      (ht.reports (act := fun | .readGroup hs => some fun t => t.readGroup hs | _ => none) rfl hgroup)

end Sys2Proof.Machine
end

section
/-! What one change does to one subscription (R53 to R56). -/

namespace Sys2Proof.Machine

open Sys2Proof

section afterChange
variable {u : Sub} (serving : Bool) (old new : Byte) (n : Nat)

/-- A LATCHED subscription takes the triggers of the change (R53, R55). -/
theorem Sub.afterChange_latched (hm : u.mode = .latched) :
    u.afterChange serving old new n = { u with mark := triggered u.mark (triggers u.cond old new n) new } := by
  simp only [Sub.afterChange, hm]

/-- A HELD subscription in service is left as it is (Table 3-3). -/
theorem Sub.afterChange_served (hm : u.mode = .held) : u.afterChange true old new n = u := by
  simp only [Sub.afterChange, hm, if_true]

/-- The mark of a HELD subscription that is not in service follows the predicate (Table 3-3). -/
theorem Sub.afterChange_held (hm : u.mode = .held) :
    u.afterChange false old new n
      = { u with mark := if holds u.cond new = true then some { count := 1, snap := new } else none } := by
  simp only [Sub.afterChange, hm, Bool.false_eq_true, if_false]
  split <;> rfl

/-- A change touches nothing of a subscription but its mark. -/
theorem Sub.afterChange_settings :
    u.afterChange serving old new n = { u with mark := (u.afterChange serving old new n).mark } := by
  unfold Sub.afterChange
  split
  · rfl
  · split
    · rfl
    · split <;> rfl

end afterChange

/-! ## Triggers -/

theorem satCount_val (n : Nat) : (satCount n).val = min n 15 := rfl

theorem triggered_zero (m : Option Mark) (v : Byte) : triggered m 0 v = m := if_pos rfl

/-- The first triggers make a mark. -/
theorem triggered_none {n : Nat} (hn : 1 ≤ n) (v : Byte) : triggered none n v = some { count := satCount n, snap := v } :=
  if_neg (Nat.ne_of_gt hn)

/-- Further triggers advance the count, and the snap takes the new value (R54). -/
theorem triggered_some {n : Nat} (hn : 1 ≤ n) (k : Mark) (v : Byte) :
    triggered (some k) n v = some { count := satCount (k.count.val + n), snap := v } :=
  if_neg (Nat.ne_of_gt hn)

/-- The condition c is met by a change from old to new (Table 3-2); EACH counts raises and is no such condition. -/
def Cond.Met (c : Cond) (old new : Byte) : Prop :=
  match c with
  | .any => True
  | .rise => old = 0#8 ∧ new ≠ 0#8
  | .fall => old ≠ 0#8 ∧ new = 0#8
  | .equal m => new = m ∧ old ≠ m
  | .each => False

/-- A LEVEL condition gives one trigger where it is met (R53). -/
theorem triggers_met {c : Cond} {old new : Byte} (h : c.Met old new) (n : Nat) : triggers c old new n = 1 := by
  cases c with
  | any => rfl
  | rise | fall | equal => exact if_pos h
  | each => exact h.elim

theorem triggers_unmet {c : Cond} {old new : Byte} (hc : c ≠ .each) (h : ¬ c.Met old new) (n : Nat) :
    triggers c old new n = 0 := by
  cases c with
  | any => exact absurd trivial h
  | rise | fall | equal => exact if_neg h
  | each => exact absurd rfl hc

/-- The predicate of a HELD subscription holds of v (Table 3-2); ANY and EACH have none. -/
def Cond.Holds (c : Cond) (v : Byte) : Prop :=
  match c with
  | .rise => v ≠ 0#8
  | .fall => v = 0#8
  | .equal m => v = m
  | .any | .each => False

theorem holds_iff (c : Cond) (v : Byte) : holds c v = true ↔ c.Holds v := by
  cases c with
  | any | each => exact ⟨Bool.noConfusion, False.elim⟩
  | rise | fall | equal => exact decide_eq_true_iff

/-- Settles O34: a LATCHED subscription by its triggers, none, one or the amount; a HELD one by its predicate. -/
theorem changesAreEvaluated : Obligations.ChangesAreEvaluated := by
  intro u serving old new n
  refine ⟨u.afterChange_settings serving old new n, fun hm hc met hmet => ?_, fun hm hc hlow hhigh => ?_, fun hm hs => ?_,
    fun hm hs predicate hp => ?_⟩
  · have hmet : met ↔ u.cond.Met old new := hmet.trans (by cases u.cond <;> rfl)
    rw [u.afterChange_latched serving old new n hm]
    refine ⟨fun h => ?_, fun h hnone => ?_, fun h k hk => ?_⟩
    · rw [triggers_unmet hc (fun c => h (hmet.mpr c)), triggered_zero]
    · rw [triggers_met (hmet.mp h), hnone]
      exact triggered_none le_rfl new
    · rw [triggers_met (hmet.mp h), Option.mem_def.mp hk]
      exact ⟨_, triggered_some le_rfl k new, satCount_val _⟩
  · have hn : triggers u.cond old new n = n := by rw [hc]; rfl
    rw [u.afterChange_latched serving old new n hm, hn]
    cases hmark : u.mark with
    | none =>
      exact ⟨satCount n, triggered_none hlow new, fun _ => Nat.min_eq_left hhigh, fun k hk => nomatch hk⟩
    | some k =>
      refine ⟨satCount (k.count.val + n), triggered_some hlow k new, fun h => (nomatch h), fun j hj => ?_⟩
      cases hj
      exact satCount_val _
  · rw [hs]
    exact u.afterChange_served old new n hm
  · rw [hs, u.afterChange_held old new n hm]
    have hholds : holds u.cond new = true ↔ predicate :=
      (holds_iff u.cond new).trans (Iff.trans (by cases u.cond <;> rfl) hp.symm)
    exact ⟨fun h => if_pos (hholds.mpr h), fun h => if_neg fun c => h (hholds.mp c)⟩

end Sys2Proof.Machine
end

section
/-! What every row leaves of the Subscription Pool and of the pending marks (R41, R42): `PoolMarksKept` says that a stage takes
neither past what they may hold. A subscription comes only from a SUBSCRIBE, which looks at the pool first; every other stage
leaves subscriptions that stem from ones that stood. -/

namespace Sys2Proof.Machine

open Sys2Proof

/-! ## Subscriptions with good marks -/

/-- The mark of u, if it has one, has a count of at least 1, and of 1 where u is HELD (R42). -/
def Sub.Counted (u : Sub) : Prop := ∀ m ∈ u.mark, 1 ≤ m.count.val ∧ (u.mode = .held → m.count.val = 1)

theorem Sub.counted_of_mark_none {u : Sub} (h : u.mark = none) : u.Counted := fun m hm => by
  rw [h] at hm
  cases hm

/-- A count of 1 is good in either mode. -/
theorem Sub.counted_of_one {u : Sub} {v : Byte} (h : u.mark = some { count := 1, snap := v }) : u.Counted := fun m hm => by
  rw [h, Option.mem_some_iff] at hm
  subst hm
  exact ⟨le_rfl, fun _ => rfl⟩

/-- Triggers that have fallen on a mark leave none without a count (R54). -/
theorem triggered_count {m : Option Mark} (h : ∀ k ∈ m, 1 ≤ k.count.val) (n : Nat) (v : Byte) :
    ∀ k ∈ triggered m n v, 1 ≤ k.count.val := by
  intro k hk
  unfold triggered at hk
  split at hk
  · exact h k hk
  · next hn =>
    split at hk
    · cases hk
      show 1 ≤ min n 15
      omega
    · next j =>
      cases hk
      show 1 ≤ min (j.count.val + n) 15
      omega

theorem Sub.Counted.afterChange {u : Sub} (h : u.Counted) (serving : Bool) (old new : Byte) (n : Nat) :
    (u.afterChange serving old new n).Counted := by
  cases hm : u.mode with
  | latched =>
    rw [u.afterChange_latched serving old new n hm]
    exact fun m hmem => ⟨triggered_count (fun k hk => (h k hk).1) _ new m hmem, fun c => nomatch hm.symm.trans c⟩
  | held =>
    cases serving with
    | true => rwa [u.afterChange_served old new n hm]
    | false =>
      rw [u.afterChange_held old new n hm]
      split
      · exact Sub.counted_of_one rfl
      · exact Sub.counted_of_mark_none rfl

theorem Sub.Counted.evaluated {u : Sub} (h : u.Counted) (v : Byte) : (u.evaluated v).Counted := by
  unfold Sub.evaluated
  cases u.mode with
  | latched => exact h
  | held =>
    dsimp only
    split
    · exact Sub.counted_of_one rfl
    · exact h

/-! ## The pool as a sum -/

theorem countP_eq_sum {α : Type} (f : α → Bool) (l : List α) : l.countP f = (l.map fun a => if f a = true then 1 else 0).sum := by
  induction l with
  | nil => rfl
  | cons a l ih => rw [List.countP_cons, ih, List.map_cons, List.sum_cons, Nat.add_comm]

/-- The entries in use, counted place by place (R41). -/
theorem State.poolInUse_eq_sum (s : State) :
    s.poolInUse = ∑ i : SlotNo, ∑ p : Port, if (s.subAt i p).isSome = true then 1 else 0 := by
  simp only [State.poolInUse, Fin.sum_univ_def]
  refine congrArg List.sum (List.map_congr_left fun i _ => ?_)
  exact countP_eq_sum _ _

/-! ## What a stage keeps -/

/-- From s to t the pool stays within its entries, and each mark keeps a good count. -/
def PoolMarksKept (s t : State) : Prop := (PoolWithin s → PoolWithin t) ∧ (MarksCounted s → MarksCounted t)

theorem PoolMarksKept.refl (s : State) : PoolMarksKept s s := ⟨id, id⟩

theorem PoolMarksKept.trans {s t u : State} (h : PoolMarksKept s t) (k : PoolMarksKept t u) : PoolMarksKept s u :=
  ⟨k.1 ∘ h.1, k.2 ∘ h.2⟩

/-- Every subscription of t stems from one of s in its place, and its mark is good if that one's was. -/
def Stems (s t : State) : Prop := ∀ i p, ∀ u ∈ t.subAt i p, ∃ w ∈ s.subAt i p, w.Counted → u.Counted

theorem Stems.kept {s t : State} (h : Stems s t) : PoolMarksKept s t := by
  refine ⟨fun hs => Nat.le_trans ?_ hs, fun hs i p u hu => ?_⟩
  · rw [State.poolInUse_eq_sum, State.poolInUse_eq_sum]
    refine Finset.sum_le_sum fun i _ => Finset.sum_le_sum fun p _ => ?_
    split
    · next ht =>
      obtain ⟨u, hu⟩ := Option.isSome_iff_exists.mp ht
      obtain ⟨w, hw, -⟩ := h i p u hu
      rw [if_pos (Option.isSome_of_mem hw)]
    · exact Nat.zero_le _
  · obtain ⟨w, hw, hcount⟩ := h i p u hu
    exact hcount (hs i p w hw)

/-- No more than the subscription of p on slot i is new, the pool has room for it, and it has no mark. -/
theorem PoolMarksKept.of_room {s t : State} {i : SlotNo} {p : Port} (hroom : s.poolInUse < 192)
    (hnew : ∀ u ∈ t.subAt i p, u.mark = none) (hold : ∀ j q, ¬ (j = i ∧ q = p) → t.subAt j q = s.subAt j q) :
    PoolMarksKept s t := by
  refine ⟨fun _ => ?_, fun hs j q u hu => ?_⟩
  · have hplaces : t.poolInUse ≤ s.poolInUse + ∑ j : SlotNo, ∑ q : Port, if j = i ∧ q = p then 1 else 0 := by
      rw [State.poolInUse_eq_sum, State.poolInUse_eq_sum, ← Finset.sum_add_distrib]
      refine Finset.sum_le_sum fun j _ => ?_
      rw [← Finset.sum_add_distrib]
      refine Finset.sum_le_sum fun q _ => ?_
      by_cases hjq : j = i ∧ q = p
      · rw [if_pos hjq]
        split <;> omega
      · rw [hold j q hjq]
        exact Nat.le_add_right _ _
    have hone : ∑ j : SlotNo, ∑ q : Port, (if j = i ∧ q = p then 1 else 0) = 1 := by
      simp only [ite_and, Finset.sum_ite_irrel, Finset.sum_ite_eq', Finset.mem_univ, if_true, Finset.sum_const_zero]
    unfold PoolWithin
    omega
  · by_cases hjq : j = i ∧ q = p
    · rw [hjq.1, hjq.2] at hu
      exact Sub.counted_of_mark_none (hnew u hu)
    · rw [hold j q hjq] at hu
      exact hs j q u hu

theorem PoolMarksKept.foldl {α : Type} {op : State → α → State} (h : ∀ s a, PoolMarksKept s (op s a)) (l : List α)
    (s : State) : PoolMarksKept s (l.foldl op s) := by
  induction l generalizing s with
  | nil => exact .refl s
  | cons a l ih => exact (h s a).trans (ih (op s a))

/-- The same where a count goes with the state. -/
theorem PoolMarksKept.foldl_counted {α : Type} {op : State × Nat → α → State × Nat}
    (h : ∀ acc a, PoolMarksKept acc.1 (op acc a).1) (l : List α) (acc : State × Nat) :
    PoolMarksKept acc.1 (l.foldl op acc).1 := by
  induction l generalizing acc with
  | nil => exact .refl _
  | cons a l ih => exact (h acc a).trans (ih (op acc a))

/-! ## Operations on records -/

theorem PoolMarksKept.of_slots {s t : State} (h : t.slots = s.slots) : PoolMarksKept s t :=
  Stems.kept fun i p u hu => ⟨u, by rwa [subAt_congr (s := s) (by rw [h])] at hu, id⟩

/-- Stages that leave each record its subscriptions, or free its slot. -/
theorem PoolMarksKept.of_records {s t : State}
    (h : ∀ i : SlotNo, ∀ r' ∈ t.slots[i].record, ∃ r ∈ s.slots[i].record, r'.subs = r.subs) : PoolMarksKept s t := by
  refine Stems.kept fun i p u hu => ?_
  unfold State.subAt at hu
  split at hu
  · next r' hr' =>
    obtain ⟨r, hr, hsubs⟩ := h i r' hr'
    exact ⟨u, by simpa only [State.subAt, Option.mem_def.mp hr, ← hsubs] using hu, id⟩
  · cases hu

theorem PoolMarksKept.modRecord (s : State) (i : SlotNo) (f : Record → Record) (hf : ∀ r, (f r).subs = r.subs) :
    PoolMarksKept s (s.modRecord i f) := by
  refine .of_records fun j r' hr' => ?_
  rw [State.modRecord_record] at hr'
  split at hr'
  · next hj =>
    obtain ⟨r, hr, rfl⟩ := Option.map_eq_some_iff.mp hr'
    exact ⟨r, by rw [hj]; exact hr, hf r⟩
  · exact ⟨r', hr', rfl⟩

theorem PoolMarksKept.freeSlot (s : State) (i : SlotNo) : PoolMarksKept s (s.freeSlot i) := by
  refine .of_records fun j r' hr' => ?_
  rw [State.freeSlot_record] at hr'
  split at hr'
  · cases hr'
  · exact ⟨r', hr', rfl⟩

/-- A subscription read after one has been altered. -/
theorem State.updSub_subAt (s : State) (i j : SlotNo) (p q : Port) (f : Option Sub → Option Sub) :
    (s.updSub i p f).subAt j q
      = if (s.slots[i].record).isSome = true ∧ j = i ∧ q = p then f (s.subAt i p) else s.subAt j q := by
  cases hr : s.slots[i].record with
  | none => rw [State.updSub_free s i p f hr, if_neg fun c => Bool.noConfusion c.1]
  | some r =>
    by_cases hj : j = i
    · subst hj
      simp only [State.subAt, State.updSub_record, if_true, hr, Option.map_some, set_get, Option.isSome_some, true_and]
    · rw [if_neg fun c => hj c.2.1]
      exact subAt_congr (by rw [State.updSub_record, if_neg hj]) q

/-- A subscription altered into none, or into one whose mark is as good. -/
theorem PoolMarksKept.updSub {s : State} {i : SlotNo} {p : Port} {f : Option Sub → Option Sub}
    (hf : ∀ u ∈ f (s.subAt i p), ∃ w ∈ s.subAt i p, w.Counted → u.Counted) : PoolMarksKept s (s.updSub i p f) := by
  refine Stems.kept fun j q u hu => ?_
  rw [State.updSub_subAt] at hu
  split at hu
  · next hc =>
    rw [hc.2.1, hc.2.2]
    exact hf u hu
  · exact ⟨u, hu, id⟩

theorem PoolMarksKept.updSub_map {s : State} {i : SlotNo} {p : Port} {f : Sub → Sub} (hf : ∀ w, w.Counted → (f w).Counted) :
    PoolMarksKept s (s.updSub i p fun o => o.map f) := by
  refine .updSub fun u hu => ?_
  obtain ⟨w, hw, rfl⟩ := Option.map_eq_some_iff.mp hu
  exact ⟨w, hw, hf w⟩

theorem PoolMarksKept.removeSub (s : State) (i : SlotNo) (p : Port) : PoolMarksKept s (s.updSub i p fun _ => none) :=
  .updSub fun _ hu => nomatch hu

theorem PoolMarksKept.clearMark (s : State) (i : SlotNo) (p : Port) : PoolMarksKept s (s.clearMark i p) :=
  .updSub_map fun _ _ => Sub.counted_of_mark_none rfl

theorem PoolMarksKept.heldEvaluation (s : State) (i : SlotNo) (p : Port) : PoolMarksKept s (s.heldEvaluation i p) :=
  .updSub_map fun _ hw => hw.evaluated _

/-- A subscription that takes the place of one. -/
theorem PoolMarksKept.replace {s : State} {i : SlotNo} {p : Port} {new : Sub} (hnew : new.mark = none)
    (hold : (s.subAt i p).isSome = true) : PoolMarksKept s (s.updSub i p fun _ => some new) := by
  refine .updSub fun u hu => ?_
  obtain ⟨w, hw⟩ := Option.isSome_iff_exists.mp hold
  cases hu
  exact ⟨w, hw, fun _ => Sub.counted_of_mark_none hnew⟩

/-- A subscription that takes an entry of the pool. -/
theorem PoolMarksKept.enter {s : State} {i : SlotNo} {p : Port} {new : Sub} (hnew : new.mark = none)
    (hnone : s.subAt i p = none) (hroom : s.poolInUse < 192) : PoolMarksKept s (s.updSub i p fun _ => some new) := by
  refine .of_room (i := i) (p := p) hroom (fun u hu => ?_) fun j q hjq => ?_
  · rw [State.updSub_subAt] at hu
    split at hu
    · cases hu
      exact hnew
    · rw [hnone] at hu
      cases hu
  · rw [State.updSub_subAt, if_neg fun c => hjq c.2]

theorem PoolMarksKept.change (s : State) (i : SlotNo) (v : Byte) (n : Nat) : PoolMarksKept s (s.change i v n) := by
  refine Stems.kept fun j q u hu => ?_
  unfold State.subAt at hu
  rw [State.change_record] at hu
  by_cases hj : j = i
  · subst hj
    rw [if_pos rfl] at hu
    cases hr : s.slots[j].record with
    | none =>
      rw [hr] at hu
      cases hu
    | some r =>
      simp only [hr, Option.map_some, Record.changed, ofFn_get] at hu
      obtain ⟨w, hw, rfl⟩ := Option.map_eq_some_iff.mp hu
      exact ⟨w, by rw [State.subAt, hr]; exact hw, fun hc => hc.afterChange _ _ _ _⟩
  · rw [if_neg hj] at hu
    exact ⟨u, hu, id⟩

theorem PoolMarksKept.setValue (s : State) (i : SlotNo) (v : Byte) : PoolMarksKept s (s.setValue i v) := by
  rw [State.setValue_eq]
  split
  · exact .refl s
  · exact .change s i v 0

end Sys2Proof.Machine
end

section
/-! Every row keeps the pool within its entries and the marks good (R41, R42, R54, R56). -/

namespace Sys2Proof.Machine

open Sys2Proof

/-! ## Operations of several stages -/

theorem PoolMarksKept.sweep (s : State) (d : Dom) : PoolMarksKept s (s.sweep d).1 := by
  refine .foldl_counted (fun acc i => ?_) userSlots (s, 0)
  rw [sweepSlot_fst]
  unfold State.sweptAt
  split
  · exact .refl _
  · exact .setValue _ i _

theorem PoolMarksKept.modDomain (s : State) (d : Dom) (f : DomainEntry → DomainEntry) :
    PoolMarksKept s (s.modDomain d f) := .of_slots (s.modDomain_slots d f)

theorem PoolMarksKept.modPin (s : State) (g : Pin) (f : PinState → PinState) : PoolMarksKept s (s.modPin g f) :=
  .of_slots (s.modPin_slots g f)

theorem PoolMarksKept.modService (s : State) (p : Port) (f : Service → Service) : PoolMarksKept s (s.modService p f) :=
  .of_slots (s.modService_slots p f)

theorem PoolMarksKept.owe (s : State) (p : Port) : PoolMarksKept s (s.owe p) := .of_slots (s.owe_slots p)

theorem PoolMarksKept.enterHeld (s : State) (d : Dom) : PoolMarksKept s (s.enterHeld d) :=
  .trans (.modDomain s d _) (.setValue _ _ _)

theorem PoolMarksKept.endWarning (s : State) (d : Dom) : PoolMarksKept s (s.endWarning d).1 := by
  have hswept : PoolMarksKept s (s.warningSwept d) :=
    .trans (.of_slots (sweepStart_slots s d)) (.trans (.sweep _ d) (.of_slots (settledHeld_slots _ d)))
  rw [endWarning_fst]
  exact hswept.trans (.setValue _ _ _)

theorem PoolMarksKept.depart (s : State) (d : Dom) (p : Port) : PoolMarksKept s (s.depart d p) := by
  rw [depart_eq]
  split
  · exact .trans (.modDomain s d _) (.endWarning _ d)
  · split
    · exact .modDomain s d _
    · exact .refl s

theorem PoolMarksKept.departOn (s : State) (i : SlotNo) (p : Port) : PoolMarksKept s (s.departOn i p) := by
  unfold State.departOn
  split
  · exact .refl s
  · exact .depart s _ p

theorem PoolMarksKept.removeDraining (s : State) (i : SlotNo) (p : Port) : PoolMarksKept s (s.removeDraining i p) := by
  rw [State.removeDraining_eq]
  split
  · exact .trans (.removeSub s i p) (.freeSlot _ i)
  · exact .removeSub s i p

theorem PoolMarksKept.unbindFrom (s : State) (g : Pin) (b : Binding) : PoolMarksKept s (s.unbindFrom g b) := by
  unfold State.unbindFrom
  split
  · exact .trans (.modPin s g _) (.modRecord _ b.slot _ fun _ => rfl)
  · exact .modPin s g _

theorem PoolMarksKept.dropIdle (s : State) (i : SlotNo) (p : Port) : PoolMarksKept s (s.dropIdle i p) := by
  unfold State.dropIdle
  split
  · exact .refl s
  · exact .removeSub s i p

theorem PoolMarksKept.retireRecord (s : State) (i : SlotNo) : PoolMarksKept s (s.retireRecord i) := by
  have hbinding : PoolMarksKept s (s.endBinding i) := by
    rcases State.endBinding_eq s i with ⟨-, h⟩ | ⟨g, b, -, -, -, h⟩
    · rw [h]
      exact .refl s
    · rw [h]
      exact .unbindFrom s g b
  have hsubs := (hbinding.trans (.foldl (fun t p => .clearMark t i p) (List.finRange 6) _)).trans
    (.foldl (fun t p => .dropIdle t i p) (List.finRange 6) _)
  unfold State.retireRecord
  dsimp only
  split
  · exact hsubs.trans (.freeSlot _ i)
  · exact hsubs.trans (.modRecord _ i _ fun _ => rfl)

/-! ## Internal requests -/

theorem State.cancelFor_slots (s : State) (p : Port) (i : SlotNo) : (s.cancelFor p i).slots = s.slots := by
  rw [State.cancelFor_frame]

/-- An entry of p on slot i leaves its service list, its timer cancelled. -/
theorem PoolMarksKept.entryGone (s : State) (p : Port) (i : SlotNo) :
    PoolMarksKept s ((s.cancelFor p i).removeEntry p i) :=
  .of_slots (State.cancelFor_slots s p i)

theorem PoolMarksKept.dropEntry (p : Port) (s : State) (e : Entry) : PoolMarksKept s (State.dropEntry p s e) := by
  unfold State.dropEntry
  dsimp only
  split
  · exact .trans (.entryGone s p e.slot) (.removeDraining _ e.slot p)
  · exact .entryGone s p e.slot

theorem PoolMarksKept.settleSub (p : Port) (s : State) (i : SlotNo) : PoolMarksKept s (State.settleSub p s i) := by
  unfold State.settleSub
  split
  · split
    · exact .refl s
    · split
      · exact .heldEvaluation s i p
      · exact .removeSub s i p
  · exact .refl s

theorem PoolMarksKept.orphanSlot (p : Port) (s : State) (i : SlotNo) : PoolMarksKept s (State.orphanSlot p s i) := by
  rcases orphanSlot_cases p s i with h | ⟨r, -, h | h⟩
  · rw [h]
    exact .refl s
  · rw [h]
    exact .retireRecord s i
  · rw [h]
    exact .trans (.modRecord s i Record.disowned fun _ => rfl) (.setValue _ i _)

theorem PoolMarksKept.resetAttention (s : State) (p : Port) : PoolMarksKept s (s.resetAttention p) := .modService s p _

theorem PoolMarksKept.teardown (s : State) (p : Port) : PoolMarksKept s (s.teardown p) := by
  have hdropped : PoolMarksKept s (s.dropService p) := .foldl (.dropEntry p) _ s
  have hsettled := hdropped.trans (.foldl (.settleSub p) (List.finRange 128) _)
  have hdeparted := (hsettled.trans (.resetAttention _ p)).trans (.foldl (fun t d => .depart t d p) (List.finRange 8) _)
  have horphaned := hdeparted.trans (.foldl (.orphanSlot p) userSlots _)
  have hvalues := horphaned.trans (.trans (.setValue _ (overdueSlot p) 0#8)
    (.setValue _ (linkSlot p) (teardownLinkValue s.ports[p].link)))
  exact hvalues.trans (.trans (.of_slots (State.modPort_slots _ p _)) (.owe _ p))

theorem PoolMarksKept.expire (s : State) (p : Port) (f : DeadlineFlag) : PoolMarksKept s (s.expire p f) := by
  unfold State.expire
  split
  · exact .trans (.modService s p _) (.setValue _ _ _)
  · exact .refl s

theorem PoolMarksKept.warningExpires (s : State) (d : Dom) (serial : Byte) : PoolMarksKept s (s.warningExpires d serial) := by
  unfold State.warningExpires
  split
  · exact .endWarning s d
  · exact .refl s

theorem PoolMarksKept.pinUpdates (s : State) (g : Pin) (serial : Byte) : PoolMarksKept s (s.pinUpdates g serial) := by
  unfold State.pinUpdates
  split
  · split
    · exact .refl s
    · split
      · exact .refl s
      · exact .setValue s _ _
  · exact .refl s

/-! ## Commands -/

/-- A handle that passes the check is of a record that stands in its slot (R6). -/
theorem State.checkHandle_record {s : State} {pass : Bool} {h : Handle} {x : SlotNo × Record}
    (hc : s.checkHandle pass h = .ok x) : s.slots[x.1].record = some x.2 := by
  rw [State.checkHandle_spec] at hc
  split at hc
  · split at hc
    · cases hc
    · next r hr =>
      split at hc
      · cases hc
      · split at hc <;> cases hc
        exact hr
  · cases hc

theorem PoolMarksKept.withHandle {s : State} {pass : Bool} {h : Handle} {act : SlotNo → Record → Done}
    (hact : ∀ i r, s.slots[i].record = some r → PoolMarksKept s (act i r).state) :
    PoolMarksKept s (s.withHandle pass h act).state := by
  unfold State.withHandle
  cases hc : s.checkHandle pass h with
  | error e => exact .refl s
  | ok x => exact hact x.1 x.2 (State.checkHandle_record hc)

theorem PoolMarksKept.controlOnly {s : State} {p : Port} {act : State → Done} (h : PoolMarksKept s (act s).state) :
    PoolMarksKept s (Machine.controlOnly s p act).state := by
  unfold Machine.controlOnly
  split
  · exact .refl s
  · exact h

/-- Either outcome of a check keeping pool and marks, the command does. -/
theorem PoolMarksKept.ite {s : State} {c : Prop} [Decidable c] {a b : Done} (ha : c → PoolMarksKept s a.state)
    (hb : ¬ c → PoolMarksKept s b.state) : PoolMarksKept s (if c then a else b).state := by
  split
  · next h => exact ha h
  · next h => exact hb h

/-- A check that refuses the command keeps pool and marks. -/
theorem PoolMarksKept.orRefused {s : State} {c : Prop} [Decidable c] {e : Status} {b : Done}
    (hb : ¬ c → PoolMarksKept s b.state) : PoolMarksKept s (if c then refuse s e else b).state :=
  .ite (fun _ => .refl s) hb

theorem PoolMarksKept.retireCommand (s : State) (p : Port) (h : Handle) : PoolMarksKept s (s.retire p h).state := by
  refine .withHandle fun i _ _ => .orRefused fun _ => .orRefused fun _ => .ite (fun _ => ?_) fun _ => .refl s
  dsimp only
  exact .retireRecord s i

theorem PoolMarksKept.claim (s : State) (p : Port) (h : Handle) : PoolMarksKept s (s.claim p h).state := by
  refine .withHandle fun i r _ => .orRefused fun _ => .orRefused fun _ => ?_
  split
  · exact .modRecord s i _ fun _ => rfl
  · exact .ite (fun _ => .refl s) fun _ => .refl s
  · exact .refl s
  · exact .refl s

theorem PoolMarksKept.lookup (s : State) (id : Half) : PoolMarksKept s (s.lookup id).state := by
  unfold State.lookup
  split
  · exact .refl s
  · split <;> exact .refl s

theorem PoolMarksKept.lockCommand (s : State) (p : Port) (h : Handle) : PoolMarksKept s (s.lock p h).state :=
  .controlOnly (.withHandle fun i _ _ => .orRefused fun _ => .orRefused fun _ => .modRecord s i _ fun _ => rfl)

/-- A record without subscriptions comes to stand in a slot. -/
theorem PoolMarksKept.place {s t : State} {i : SlotNo} {x : Slot} (h : t.slots = s.slots.set i x)
    (hsubs : ∀ r ∈ x.record, ∀ q : Port, r.subs[q] = none) : PoolMarksKept s t := by
  refine Stems.kept fun j q u hu => ?_
  unfold State.subAt at hu
  rw [h, set_get] at hu
  by_cases hj : j = i
  · rw [if_pos hj] at hu
    split at hu
    · next r hr =>
      rw [hsubs r hr q] at hu
      cases hu
    · cases hu
  · rw [if_neg hj] at hu
    exact ⟨u, hu, id⟩

theorem PoolMarksKept.declareCommand (s : State) (p : Port) (id : Half) (kind init dflt dom policy : Byte) :
    PoolMarksKept s (s.declare p id kind init dflt dom policy).state := by
  refine .orRefused fun _ => ?_
  split
  · refine .orRefused fun _ => .orRefused fun _ => ?_
    split
    · exact .refl s
    · refine .place rfl fun r hr q => ?_
      cases hr
      exact replicate_get _ q
  · exact .refl s

theorem PoolMarksKept.writeValue (s : State) (i : SlotNo) (r : Record) (v : Byte) :
    PoolMarksKept s (s.writeValue i r v).state :=
  .ite (fun _ => .refl s) fun _ => .change s i v 0

theorem PoolMarksKept.set (s : State) (p : Port) (h : Handle) (v : Byte) : PoolMarksKept s (s.set p h v).state := by
  refine .withHandle fun i r _ => .orRefused fun _ => ?_
  split
  · exact .refl s
  · exact .writeValue s i r v

theorem PoolMarksKept.setIf (s : State) (p : Port) (h : Handle) (e : Half) (v : Byte) :
    PoolMarksKept s (s.setIf p h e v).state := by
  refine .withHandle fun i r _ => .orRefused fun _ => ?_
  split
  · exact .refl s
  · exact .ite (fun _ => .refl s) fun _ => .writeValue s i r v

theorem PoolMarksKept.raise (s : State) (p : Port) (h : Handle) (n : Byte) : PoolMarksKept s (s.raise p h n).state := by
  refine .withHandle fun i r _ => .orRefused fun _ => .orRefused fun _ => ?_
  split
  · exact .refl s
  · exact .change s i _ _

/-- What SUBSCRIBE asks for has no mark (R47). -/
theorem askedSub_mark {i : SlotNo} {kind : Kind} {prio cond m mode cls attrs : Byte} {new : Sub}
    (h : askedSub i kind prio cond m mode cls attrs = some new) : new.mark = none := by
  unfold askedSub at h
  split at h
  · split at h
    · split at h
      · split at h <;> cases h
        rfl
      · split at h
        · split at h <;> cases h
          rfl
        · cases h
    · cases h
  · cases h

theorem subAt_of_record {s : State} {i : SlotNo} {r : Record} (hr : s.slots[i].record = some r) (q : Port) :
    s.subAt i q = r.subs[q] := by
  rw [State.subAt, hr]

/-- A subscription is created with an entry of the pool free for it, or takes the place of one (R46 to R48). -/
theorem PoolMarksKept.subscribe (s : State) (p : Port) (h : Handle) (prio cond m mode cls attrs : Byte) :
    PoolMarksKept s (s.subscribe p h prio cond m mode cls attrs).state := by
  refine .withHandle fun i r hr => ?_
  split
  · exact .refl s
  · next new hasked =>
    have hmark := askedSub_mark hasked
    split
    · next old hold =>
      refine .orRefused fun _ => ?_
      have hreplaced : PoolMarksKept s (s.createSub i p new) :=
        .trans (.replace hmark (by rw [subAt_of_record hr, hold]; rfl)) (.heldEvaluation _ i p)
      dsimp only [State.replaceSub]
      split
      · exact hreplaced.trans (.departOn _ i p)
      · exact hreplaced
    · next hnone =>
      refine .orRefused fun hroom => ?_
      exact .trans (.enter hmark (by rw [subAt_of_record hr, hnone]) (Nat.not_le.mp hroom)) (.heldEvaluation _ i p)

theorem PoolMarksKept.unsubscribe (s : State) (p : Port) (h : Handle) : PoolMarksKept s (s.unsubscribe p h).state := by
  refine .withHandle fun i r _ => ?_
  split
  · exact .refl s
  · refine .orRefused fun _ => ?_
    dsimp only [State.unsubscribeSub]
    split
    · exact .trans (.removeSub s i p) (.departOn _ i p)
    · exact .removeSub s i p

theorem State.startDeadline_slots (s : State) (p : Port) (k : Prio) (i : SlotNo) (token : Byte) (c : DeadlineClass) :
    (s.startDeadline p k i token c).slots = s.slots := (Stands.startDeadline s p k i token c).slots

theorem PoolMarksKept.takeIntoService (s : State) (p : Port) (i : SlotNo) (u : Sub) (token : Byte) :
    PoolMarksKept s (s.takeIntoService p i u token) :=
  have hmark := PoolMarksKept.trans (.modService s p fun v => { v with rotation := v.rotation.set u.priority i })
    (.clearMark _ i p)
  have hlist := hmark.trans (.modService _ p fun v =>
    { v with tokenCounter := token, list := v.list ++ [{ slot := i, token := token, overdue := false }] })
  hlist.trans (.trans (.of_slots (State.startDeadline_slots _ p u.priority i token u.cls)) (.owe _ p))

theorem PoolMarksKept.acquire (s : State) (p : Port) : PoolMarksKept s (s.acquire p).state := by
  unfold State.acquire
  split
  · exact .refl s
  · split
    · exact .refl s
    · split
      · exact .refl s
      · split
        · exact .refl s
        · exact .takeIntoService s p _ _ _

theorem PoolMarksKept.endEntry (s : State) (p : Port) (e : Entry) : PoolMarksKept s (s.endEntry p e) := by
  have hback : ∀ t : State, PoolMarksKept t (t.overdueBack p e) := fun t => by
    unfold State.overdueBack
    split
    · exact .setValue t _ _
    · exact .refl t
  have hrelease : ∀ t : State, PoolMarksKept t (t.releaseSub e.slot p) := fun t => by
    unfold State.releaseSub
    split
    · exact .removeDraining t e.slot p
    · exact .heldEvaluation t e.slot p
  have hdepart : ∀ (t : State) (guard : Bool), PoolMarksKept t (t.acknowledge e.slot p guard) := fun t guard => by
    unfold State.acknowledge
    split
    · exact .departOn t e.slot p
    · exact .refl t
  exact ((((PoolMarksKept.entryGone s p e.slot).trans (hback _)).trans (hrelease _)).trans (hdepart _ _)).trans (.owe _ p)

theorem PoolMarksKept.release (s : State) (p : Port) (h : Handle) : PoolMarksKept s (s.release p h).state := by
  refine .withHandle fun i r _ => ?_
  split
  · exact .refl s
  · exact .endEntry s p _

theorem PoolMarksKept.releaseTop (s : State) (p : Port) : PoolMarksKept s (s.releaseTop p).state := by
  unfold State.releaseTop
  split
  · exact .refl s
  · exact .endEntry s p _

theorem PoolMarksKept.setThreshold (s : State) (p : Port) (t : Byte) : PoolMarksKept s (s.setThreshold p t).state := by
  unfold State.setThreshold
  split
  · exact .trans (.modService s p _) (.owe _ p)
  · exact .refl s

theorem PoolMarksKept.resetNow (s : State) (d : Dom) : PoolMarksKept s (s.resetNow d).state := by
  dsimp only [State.resetNow]
  exact .trans (.sweep s d) (.enterHeld _ d)

theorem PoolMarksKept.startWarning (s : State) (d : Dom) (timeout : Byte) : PoolMarksKept s (s.startWarning d timeout) :=
  .trans (.trans (.modDomain s d _) (.setValue _ (domainSlot d) (domStateByte .warning)))
    (.of_slots (Stands.startWarningTimer _ d _ timeout).slots)

theorem PoolMarksKept.resetDomain (s : State) (d : Dom) (mode : ResetMode) (timeout : Byte) :
    PoolMarksKept s (s.resetDomain d mode timeout).state := by
  unfold State.resetDomain
  split
  · split
    · exact .startWarning s d timeout
    · exact .resetNow s d
  · exact .resetNow s d
  · exact .refl s
  · dsimp only
    exact .endWarning s d
  · exact .refl s

theorem PoolMarksKept.domainReset (s : State) (p : Port) (dom mode timeout : Byte) :
    PoolMarksKept s (s.domainReset p dom mode timeout).state := by
  refine .controlOnly ?_
  split
  · exact .resetDomain s _ _ timeout
  · exact .refl s

theorem PoolMarksKept.cancelWarning (s : State) (d : Dom) : PoolMarksKept s (s.cancelWarning d) :=
  .trans (.trans (.of_slots (Stands.cancelWarningTimer s d).slots) (.modDomain _ d _)) (.setValue _ _ _)

theorem PoolMarksKept.reapply (s : State) (d : Dom) : PoolMarksKept s (s.reapply d).1 := by
  refine .foldl_counted (fun acc i => ?_) (List.finRange 128) (s, 0)
  unfold State.reapplySlot
  split
  · exact .refl _
  · split
    · exact .refl _
    · exact .change _ i _ 0

theorem PoolMarksKept.releaseHeld (s : State) (d : Dom) : PoolMarksKept s (s.releaseHeld d).1 :=
  .trans (.trans (.modDomain s d _) (.setValue _ (domainSlot d) (domStateByte .run))) (.reapply _ d)

theorem PoolMarksKept.domainRelease (s : State) (p : Port) (dom : Byte) : PoolMarksKept s (s.domainRelease p dom).state := by
  refine .controlOnly ?_
  split
  · exact .refl s
  · next d _ =>
    unfold State.releaseDomain
    split
    · exact .refl s
    · exact .cancelWarning s d
    · dsimp only
      exact .releaseHeld s d

theorem PoolMarksKept.inputBinding (s : State) (g : Pin) (i : SlotNo) (f : Fin 16) (a l : Level) :
    PoolMarksKept s (s.inputBinding g i f a l) :=
  .trans (.trans (.modPin s g _) (.modRecord _ i (fun r => { r with owner := .pin g }) fun _ => rfl)) (.modPin _ g _)

theorem PoolMarksKept.sampled (s : State) (n : Nat) : PoolMarksKept s { s with samples := n } := .of_slots rfl

theorem PoolMarksKept.bindInput (s : State) (g : Pin) (i : SlotNo) (f : Fin 16) (a : Level) (found : Option Level) :
    PoolMarksKept s (s.bindInput g i f a found) := by
  have hbound := (PoolMarksKept.inputBinding s g i f a (foundLevel s.samples g found .highZ)).trans
    (.sampled _ (s.samples + 1))
  unfold State.bindInput
  dsimp only
  split
  · exact hbound
  · exact hbound.trans (.setValue _ i _)

theorem PoolMarksKept.bindPin (s : State) (p : Port) (found : Option Level) (pin : Byte) (h : Handle)
    (dir active filter : Byte) : PoolMarksKept s (s.bindPin p found pin h dir active filter).state := by
  refine .controlOnly (.withHandle fun i r _ => .orRefused fun _ => ?_)
  split
  · split
    · exact .refl s
    · dsimp only
      split
      · exact .bindInput s _ i _ _ found
      · exact .modPin s _ _
  · exact .refl s

theorem PoolMarksKept.unbindPin (s : State) (p : Port) (pin : Byte) : PoolMarksKept s (s.unbindPin p pin).state := by
  refine .controlOnly ?_
  split
  · exact .refl s
  · next g _ =>
    split
    · exact .refl s
    · next b _ => exact .unbindFrom s g b

theorem PoolMarksKept.pinQuery (s : State) (pin : Byte) : PoolMarksKept s (s.pinQuery pin).state := by
  unfold State.pinQuery
  split <;> exact .refl s

theorem PoolMarksKept.evict (s : State) (p : Port) (port : Byte) : PoolMarksKept s (s.evict p port).state := by
  refine .controlOnly ?_
  split
  · exact .refl s
  · exact .orRefused fun _ => .orRefused fun _ => .of_slots (State.modPort_slots _ _ _)

end Sys2Proof.Machine
end

section
/-! The rows: none takes the Subscription Pool past its entries or leaves a mark with a wrong count (R41, R42). -/

namespace Sys2Proof.Machine

open Sys2Proof

/-! ## Resets, frames, deliveries and ticks -/

theorem PoolMarksKept.modPort (s : State) (p : Port) (f : PortState → PortState) : PoolMarksKept s (s.modPort p f) :=
  .of_slots (s.modPort_slots p f)

theorem PoolMarksKept.takeFrame (s : State) (p : Port) (f : PortState → PortState) : PoolMarksKept s (s.takeFrame p f) := by
  unfold State.takeFrame
  split
  · exact .modPort s p f
  · exact .refl s

/-- No record stands in the cold part. -/
theorem PoolMarksKept.cold (s : State) : PoolMarksKept s s.cold :=
  .of_records fun i r hr => by rw [State.cold_record] at hr; cases hr

/-- The system records stand without subscriptions right after reset release (R7). -/
theorem PoolMarksKept.released (s : State) (levels : Pin → Level) : PoolMarksKept s (s.released levels) := by
  refine Stems.kept fun i q u hu => ?_
  unfold State.subAt at hu
  split at hu
  · next r hr =>
    obtain ⟨id, -, rfl⟩ := released_record s levels hr
    rw [systemRecord, replicate_get] at hu
    cases hu
  · cases hu

theorem PoolMarksKept.ticked (s : State) (board : Board) : PoolMarksKept s (s.engaged.ticked board) :=
  .of_slots (s.engaged_slots)

/-! ## Takings -/

/-- A request taken keeps pool and marks where its own part does. -/
theorem PoolMarksKept.internal {s : State} {pick : Taking → Option (State → State)}
    (h : ∀ r act, pick r = some act → ∀ t, PoolMarksKept t (act t)) : PoolMarksKept s (s.takeInternal pick) := by
  unfold State.takeInternal
  split
  · exact .refl s
  · next r _ =>
    split
    · exact .refl s
    · next act ha =>
      exact .trans (.of_slots (s.taken_slots r)) (.trans (h r act ha _) (.of_slots (State.sendIndications_slots _)))

/-- A command taken keeps pool and marks where its own part does. -/
theorem PoolMarksKept.command {s : State} {p : Port} {act : Command → Option (State → Done)}
    (h : ∀ c f, act c = some f → ∀ t, PoolMarksKept t (f t).state) : PoolMarksKept s (s.takeCommand p act) := by
  rcases s.takeCommand_cases p act with he | ⟨q, f, a, -, hf, he⟩
  · rw [he]
    exact .refl s
  · rw [he]
    have hserving : PoolMarksKept s (s.serving p q) := .of_slots (Stands.serving s p q).slots
    exact (hserving.trans (h _ f hf _)).trans (.of_slots (State.sendAnswer_slots _ p a))

/-- Every row keeps the pool within its entries and the marks good. -/
theorem exec_poolMarksKept (c : Instr) (s : State) : ∃ t, exec c s = .next t ∧ PoolMarksKept s t := by
  cases c with
  | coldReset => exact ⟨_, rfl, .cold s⟩
  | resetRelease board =>
    refine ⟨_, rfl, ?_⟩
    split
    · exact .released s _
    · exact .refl s
  | tick board =>
    refine ⟨_, rfl, ?_⟩
    split
    · exact .ticked s board
    · exact .refl s
  | filterAccept g => exact ⟨_, rfl, .modPin s g _⟩
  | deadlineTimerRunOut p k => exact ⟨_, rfl, .of_slots (s.modDeadline_slots p k _)⟩
  | warningTimerRunOut d => exact ⟨_, rfl, .of_slots (s.modWarning_slots d _)⟩
  | hello p | submit p | pull p | resetLink p | peek p | badFrame p | unknownKindFrame p => exact ⟨_, rfl, .takeFrame s p _⟩
  | answerArrival p | eligibleIndication p | evictRequest p | teardownCompletion p => exact ⟨_, rfl, .modPort s p _⟩
  | teardownRequest p =>
    refine ⟨_, rfl, .internal fun r act h t => ?_⟩
    split at h
    · split at h
      · rw [← Option.some.inj h]
        exact .teardown t p
      · cases h
    · cases h
  | linkNotice p =>
    refine ⟨_, rfl, .internal fun r act h t => ?_⟩
    split at h
    · split at h <;> cases h
      exact .setValue t _ _
    · cases h
  | deadlineExpiryRequest p k =>
    refine ⟨_, rfl, .internal fun r act h t => ?_⟩
    split at h
    · split at h <;> cases h
      exact .expire t p _
    · cases h
  | warningExpiryRequest d =>
    refine ⟨_, rfl, .internal fun r act h t => ?_⟩
    split at h
    · split at h <;> cases h
      exact .warningExpires t d _
    · cases h
  | pinUpdateRequest g =>
    refine ⟨_, rfl, .internal fun r act h t => ?_⟩
    split at h
    · split at h <;> cases h
      exact .pinUpdates t g _
    · cases h
  | declare p =>
    refine ⟨_, rfl, .command fun c f h t => ?_⟩
    split at h <;> cases h
    exact .declareCommand t p _ _ _ _ _ _
  | retire p =>
    refine ⟨_, rfl, .command fun c f h t => ?_⟩
    split at h <;> cases h
    exact .retireCommand t p _
  | claim p =>
    refine ⟨_, rfl, .command fun c f h t => ?_⟩
    split at h <;> cases h
    exact .claim t p _
  | lookup p =>
    refine ⟨_, rfl, .command fun c f h t => ?_⟩
    split at h <;> cases h
    exact .lookup t _
  | lock p =>
    refine ⟨_, rfl, .command fun c f h t => ?_⟩
    split at h <;> cases h
    exact .lockCommand t p _
  | set p =>
    refine ⟨_, rfl, .command fun c f h t => ?_⟩
    split at h <;> cases h
    exact .set t p _ _
  | setIf p =>
    refine ⟨_, rfl, .command fun c f h t => ?_⟩
    split at h <;> cases h
    exact .setIf t p _ _ _
  | raise p =>
    refine ⟨_, rfl, .command fun c f h t => ?_⟩
    split at h <;> cases h
    exact .raise t p _ _
  | read p =>
    refine ⟨_, rfl, .command fun c f h t => ?_⟩
    split at h <;> cases h
    exact .withHandle fun _ _ _ => .refl t
  | readGroup p =>
    refine ⟨_, rfl, .command fun c f h t => ?_⟩
    split at h <;> cases h
    exact .ite (fun _ => .refl t) fun _ => .refl t
  | subscribe p =>
    refine ⟨_, rfl, .command fun c f h t => ?_⟩
    split at h <;> cases h
    exact .subscribe t p _ _ _ _ _ _ _
  | unsubscribe p =>
    refine ⟨_, rfl, .command fun c f h t => ?_⟩
    split at h <;> cases h
    exact .unsubscribe t p _
  | acquire p =>
    refine ⟨_, rfl, .command fun c f h t => ?_⟩
    split at h <;> cases h
    exact .acquire t p
  | release p =>
    refine ⟨_, rfl, .command fun c f h t => ?_⟩
    split at h <;> cases h
    exact .release t p _
  | releaseTop p =>
    refine ⟨_, rfl, .command fun c f h t => ?_⟩
    split at h <;> cases h
    exact .releaseTop t p
  | threshold p =>
    refine ⟨_, rfl, .command fun c f h t => ?_⟩
    split at h <;> cases h
    exact .setThreshold t p _
  | serviceList p =>
    refine ⟨_, rfl, .command fun c f h t => ?_⟩
    split at h <;> cases h
    exact .refl t
  | domainReset p =>
    refine ⟨_, rfl, .command fun c f h t => ?_⟩
    split at h <;> cases h
    exact .domainReset t p _ _ _
  | domainRelease p =>
    refine ⟨_, rfl, .command fun c f h t => ?_⟩
    split at h <;> cases h
    exact .domainRelease t p _
  | bindPin p found =>
    refine ⟨_, rfl, .command fun c f h t => ?_⟩
    split at h <;> cases h
    exact .bindPin t p found _ _ _ _ _
  | unbindPin p =>
    refine ⟨_, rfl, .command fun c f h t => ?_⟩
    split at h <;> cases h
    exact .unbindPin t p _
  | pinQuery p =>
    refine ⟨_, rfl, .command fun c f h t => ?_⟩
    split at h <;> cases h
    exact .pinQuery t _
  | evict p =>
    refine ⟨_, rfl, .command fun c f h t => ?_⟩
    split at h <;> cases h
    exact .evict t p _
  | refclkRisingEdge =>
    refine ⟨_, rfl, ?_⟩
    split
    · exact .of_slots rfl
    · exact .refl s

theorem step_poolMarksKept {s t : State} (h : step s = .next t) : PoolMarksKept s t := by
  unfold step at h
  split at h
  · cases h
    exact .refl s
  · next c rest _ =>
    obtain ⟨t', ht, hkept⟩ := exec_poolMarksKept c { s with pending := rest }
    rw [h] at ht
    cases ht
    exact .trans (.of_slots rfl) hkept

/-- Settles O58: a subscription enters the pool by a SUBSCRIBE alone, which asks for room and gives it no mark; every other
stage leaves subscriptions that stood, with the marks that triggers, predicates and evaluations give them. -/
theorem stepsKeepPoolAndMarks : Obligations.StepsKeepPoolAndMarks :=
  ⟨fun _ _ hs ht => (step_poolMarksKept ht).1 hs, fun _ _ hs ht => (step_poolMarksKept ht).2 hs⟩

end Sys2Proof.Machine
end

section
/-! Changes in turn, in any state: what a sweep, the end of a warning and a departure from an awaited set leave of slots, pins
and ports, as `Swept`, `WarningEnds` and `GuardGone` say it (R28, R100 to R103). -/

namespace Sys2Proof.Machine

open Sys2Proof

/-! ## Changes whose pins follow -/

/-- From s to t only slots that P names have been touched, every binding stands, and the pins follow the records. -/
structure Follows (P : SlotNo → Prop) (s t : State) : Prop where
  acts : ActsOn P s t
  binding : ∀ g : Pin, t.pins[g].binding = s.pins[g].binding
  pins : PinsFollow s t

theorem boundPin_congr {s t : State} (h : ∀ g : Pin, t.pins[g].binding = s.pins[g].binding) (i : SlotNo) :
    t.boundPin i = s.boundPin i := by
  simp only [State.boundPin, h]

theorem versionAt_congr {s t : State} {i : SlotNo} (h : t.slots[i] = s.slots[i]) : t.versionAt i = s.versionAt i := by
  simp only [State.versionAt, h]

/-- A pin stands while the record of its binding keeps its version. -/
theorem PinsFollow.stands {s t : State} (h : PinsFollow s t) {g : Pin}
    (hv : ∀ b ∈ s.pins[g].binding, t.versionAt b.slot = s.versionAt b.slot) : t.pins[g] = s.pins[g] := by
  rw [h g]
  split
  · rfl
  · next b hb => exact if_neg fun c => c.2.2 (hv b hb)

/-- Slots and pins stand. -/
theorem PinsFollow.of_same {s t : State} (hs : t.slots = s.slots) (hp : t.pins = s.pins) : PinsFollow s t := by
  intro g
  rw [hp]
  split
  · rfl
  · exact (if_neg fun c => c.2.2 (versionAt_congr (by rw [hs]))).symm

/-- Runs on separate slots: a pin follows the one of them that its record's slot is of. -/
theorem Follows.trans {P Q : SlotNo → Prop} {s t u : State} (h : Follows P s t) (k : Follows Q t u)
    (hd : ∀ i, P i → ¬ Q i) : Follows (fun i => P i ∨ Q i) s u := by
  refine ⟨h.acts.trans k.acts hd, fun g => (k.binding g).trans (h.binding g), fun g => ?_⟩
  have hfirst := h.pins g
  have hthen := k.pins g
  rw [h.binding g] at hthen
  cases hb : s.pins[g].binding with
  | none => simp only [hb] at hfirst hthen ⊢; exact hthen.trans hfirst
  | some b =>
    simp only [hb] at hfirst hthen ⊢
    rw [boundPin_congr h.binding] at hthen
    by_cases hQ : Q b.slot
    · have hslot := h.acts.slot b.slot fun hP => hd _ hP hQ
      rw [versionAt_congr hslot, if_neg fun c => c.2.2 rfl] at hfirst
      rw [hthen, versionAt_congr hslot, hfirst, hb]
    · have hslot := k.acts.slot b.slot hQ
      rw [versionAt_congr hslot, if_neg fun c => c.2.2 rfl] at hthen
      rw [hthen, hfirst, versionAt_congr hslot, valueAt_congr (by rw [hslot])]

theorem Follows.mono {P Q : SlotNo → Prop} {s t : State} (h : Follows P s t) (hPQ : ∀ i, P i → Q i) : Follows Q s t :=
  { h with acts := h.acts.mono hPQ }

theorem Follows.refl (P : SlotNo → Prop) (s : State) : Follows P s s := ⟨.refl P s, fun _ => rfl, .of_same rfl rfl⟩

/-- Domains and timers alone differ. -/
theorem Follows.of_domains {s t : State} {P : SlotNo → Prop}
    (h : t = { s with warnings := t.warnings, domains := t.domains }) : Follows P s t := by
  have hs : t.slots = s.slots := by rw [h]
  have hp : t.pins = s.pins := by rw [h]
  exact ⟨.of_same (by rw [h]) hs hp (by rw [h]), fun g => by rw [hp], .of_same hs hp⟩

theorem Follows.change (s : State) (i : SlotNo) (v : Byte) (n : Nat) : Follows (· = i) s (s.change i v n) := by
  cases hr : s.slots[i].record with
  | none =>
    rw [State.change_free s i v n hr]
    exact .refl _ s
  | some r => exact ⟨.change s i v n, (Steady.change s i v n).binding, State.change_pinsFollow v n hr⟩

theorem Follows.setValue (s : State) (i : SlotNo) (v : Byte) : Follows (· = i) s (s.setValue i v) := by
  rw [State.setValue_eq]
  split
  · exact .refl _ s
  · exact .change s i v 0

/-- A fold of operations each on its own slot. -/
theorem Follows.foldl {op : State → SlotNo → State} (hop : ∀ s i, Follows (· = i) s (op s i)) (l : List SlotNo)
    (hn : l.Nodup) (s : State) : Follows (· ∈ l) s (l.foldl op s) := by
  induction l generalizing s with
  | nil => exact .refl _ s
  | cons i l ih =>
    obtain ⟨hi, hn⟩ := List.nodup_cons.mp hn
    exact ((hop s i).trans (ih hn _) fun j hj hl => hi (hj ▸ hl)).mono fun j hj => List.mem_cons.mpr hj

/-! ## Slots given a value -/

theorem SlotChanged.change (s : State) (i : SlotNo) (v : Byte) (n : Nat) : SlotChanged s (s.change i v n) i v n := by
  cases hr : s.slots[i].record with
  | none =>
    rw [SlotChanged, hr, State.change_free s i v n hr]
  | some r => exact State.change_slotChanged v n hr

theorem SlotGiven.setValue (s : State) (i : SlotNo) (v : Byte) : SlotGiven s (s.setValue i v) i v := by
  rw [SlotGiven, State.setValue_eq]
  split
  · rfl
  · exact .change s i v 0

/-- A change while, before and after, the slot stands. -/
theorem SlotChanged.between {s m m' t : State} {i : SlotNo} {v : Byte} {n : Nat} (h : SlotChanged m m' i v n)
    (hs : m.slots[i] = s.slots[i]) (hserv : m.services = s.services) (ht : t.slots[i] = m'.slots[i]) : SlotChanged s t i v n := by
  simpa only [SlotChanged, State.inService, hs, hserv, ht] using h

theorem SlotGiven.between {s m m' t : State} {i : SlotNo} {v : Byte} (h : SlotGiven m m' i v)
    (hs : m.slots[i] = s.slots[i]) (hserv : m.services = s.services) (ht : t.slots[i] = m'.slots[i]) : SlotGiven s t i v := by
  have hval : m.valueAt i = s.valueAt i := valueAt_congr (by rw [hs])
  simpa only [SlotGiven, SlotChanged, State.inService, hval, hs, hserv, ht] using h

/-- A port without a subscription has none after its record is given a value. -/
theorem SlotGiven.subAt_none {s t : State} {i : SlotNo} {v : Byte} (h : SlotGiven s t i v) {q : Port}
    (hn : s.subAt i q = none) : t.subAt i q = none := by
  have hstands : t.slots[i] = s.slots[i] → t.subAt i q = none := fun e => (subAt_congr (by rw [e]) q).trans hn
  unfold SlotGiven at h
  split at h
  · exact hstands h
  · unfold SlotChanged at h
    cases hr : s.slots[i].record with
    | none =>
      rw [hr] at h
      exact hstands h
    | some r =>
      rw [State.subAt, hr] at hn
      rw [hr] at h
      simp only [State.subAt, h, ofFn_get, hn, Option.map_none]

/-! ## The sweep -/

/-- The default the sweep of d gives a user record (R103). -/
theorem sweptTo_user (s : State) (d : Dom) {i : SlotNo} (hi : 20 ≤ i.val) :
    s.sweptTo d i = (s.slots[i].record).bind fun r => r.sweepTarget d := by
  unfold State.sweptTo
  cases s.slots[i].record with
  | none => rfl
  | some r =>
    rw [Option.bind_some, Record.sweepTarget]
    dsimp only
    cases r.dflt with
    | none => rw [Option.filter_none, ite_self]
    | some v =>
      rw [Option.filter_some]
      by_cases hc : r.state = .live ∧ r.domain = some d ∧ r.kind = .level ∧ r.locked = false
      · rw [if_pos hc]
        dsimp only
        by_cases hv : r.value = v
        · rw [if_pos hv, if_neg]
          simp only [hv, ne_eq, not_true_eq_false, and_false, decide_false, Bool.false_eq_true, not_false_eq_true]
        · rw [if_neg hv, if_pos (decide_eq_true ⟨hi, hc.1, hc.2.1, hc.2.2.1, hc.2.2.2, hv⟩)]
      · rw [if_neg hc, if_neg]
        rw [decide_eq_true_eq]
        exact fun c => hc ⟨c.2.1, c.2.2.1, c.2.2.2.1, c.2.2.2.2.1⟩

/-- The sweep at one user slot changes the record to its default, or leaves it. -/
theorem sweptAt_eq (s : State) (d : Dom) {i : SlotNo} (hi : 20 ≤ i.val) :
    s.sweptAt d i = match s.sweptTo d i with
      | some v => s.change i v 0
      | none => s := by
  rw [sweptTo_user s d hi, State.sweptAt]
  cases hr : s.slots[i].record with
  | none => rfl
  | some r =>
    have hval : s.valueAt i = r.value := by rw [State.valueAt, hr]
    rw [Option.bind_some]
    dsimp only
    unfold Record.sweptTo
    cases hv : r.sweepTarget d with
    | none => exact State.setValue_same s i _ hval
    | some v =>
      obtain ⟨-, -, -, -, -, hne⟩ := Record.sweepTarget_some hv
      exact State.setValue_differs s i v (by rw [hval]; exact hne)

theorem userSlots_nodup : userSlots.Nodup := (List.nodup_finRange 128).filter _

theorem Follows.sweep (s : State) (d : Dom) : Follows (fun i => 20 ≤ i.val) s (s.sweep d).1 := by
  rw [sweep_fst]
  refine (Follows.foldl (fun t i => ?_) userSlots userSlots_nodup s).mono fun i hi => mem_userSlots.mp hi
  unfold State.sweptAt
  split
  · exact .refl _ t
  · exact .setValue t i _

theorem sweep_services (s : State) (d : Dom) : (s.sweep d).1.services = s.services := sweep_keeps State.services (by simp) d s

theorem sweep_swept (s : State) (d : Dom) : Swept s (s.sweep d).1 d := by
  intro i hi
  obtain ⟨m, hserv, hbefore, hafter⟩ := (foldl_concerns (op := State.sweptAt d) (R := fun i s t => t.slots[i] = s.slots[i])
    (Good := fun m => m.services = s.services) (fun _ _ => rfl) (fun _ _ _ _ h k => k.trans h) userSlots userSlots_nodup
    (fun t ht j _ => ⟨(sweptAt_keeps State.services (by simp) d t j).trans ht,
      fun k hk => (sweptAt_acts d t j).slot k fun c => hk c.1⟩) s rfl).2 i (mem_userSlots.mpr hi)
  have htarget : m.sweptTo d i = s.sweptTo d i := by rw [sweptTo_user m d hi, sweptTo_user s d hi, hbefore]
  rw [← sweep_fst, sweptAt_eq m d hi, htarget] at hafter
  cases hv : s.sweptTo d i with
  | none => rw [hv] at hafter; exact hafter.trans hbefore
  | some v => rw [hv] at hafter; exact (SlotChanged.change m i v 0).between hbefore hserv hafter

/-! ## The end of a warning and departures -/

theorem sweep_rest (s : State) (d : Dom) :
    (s.sweep d).1 = { s with slots := (s.sweep d).1.slots, pins := (s.sweep d).1.pins, ports := (s.sweep d).1.ports } := by
  have hrest := (Follows.sweep s d).acts.rest
  rw [sweep_keeps State.deadlines (by simp), sweep_keeps State.warnings (by simp), sweep_keeps State.idMap (by simp),
    sweep_services, sweep_keeps State.domains (by simp)] at hrest
  exact hrest

theorem setValue_rest (s : State) (i : SlotNo) (v : Byte) :
    s.setValue i v
      = { s with slots := (s.setValue i v).slots, pins := (s.setValue i v).pins, ports := (s.setValue i v).ports } := by
  have hrest := (Follows.setValue s i v).acts.rest
  rw [State.setValue_deadlines, State.setValue_warnings, State.setValue_idMap, State.setValue_services,
    State.setValue_domains] at hrest
  exact hrest

/-- The Domain Table entry of a domain whose warning has ended (R101). -/
def DomainEntry.ended (x : DomainEntry) : DomainEntry :=
  { state := .held, awaited := Vector.replicate 6 false, serial := x.serial, timeout := 0#8 }

theorem warningSwept_rest (s : State) (d : Dom) :
    s.warningSwept d
      = { s with slots := (s.warningSwept d).slots, pins := (s.warningSwept d).pins, ports := (s.warningSwept d).ports
                 warnings := s.warnings.set d { s.warnings[d] with timer := none }
                 domains := s.domains.set d s.domains[d].ended } := by
  have hdomains : (s.warningSwept d).domains = s.domains.set d s.domains[d].ended := vector_ext fun e => by
    rw [warningSwept_domains, set_get]
    rfl
  rw [← hdomains]
  unfold State.warningSwept
  have hrest := sweep_rest (s.sweepStart d) d
  generalize ((s.sweepStart d).sweep d).1 = m at hrest
  rw [hrest]
  rfl

theorem endWarning_rest (s : State) (d : Dom) :
    (s.endWarning d).1
      = { s with slots := (s.endWarning d).1.slots, pins := (s.endWarning d).1.pins, ports := (s.endWarning d).1.ports
                 warnings := s.warnings.set d { s.warnings[d] with timer := none }
                 domains := s.domains.set d s.domains[d].ended } := by
  rw [endWarning_fst]
  have hswept := warningSwept_rest s d
  have hrest := setValue_rest (s.warningSwept d) (domainSlot d) (domStateByte .held)
  generalize (s.warningSwept d).setValue (domainSlot d) (domStateByte .held) = m at hrest
  generalize s.warningSwept d = k at hswept hrest
  rw [hrest, hswept]

/-- The stages before the DOMAIN record is given 2 touch user slots alone. -/
theorem Follows.warningSwept (s : State) (d : Dom) : Follows (fun i => 20 ≤ i.val) s (s.warningSwept d) := by
  have hstart : Follows (fun _ => False) s (s.sweepStart d) := .of_domains rfl
  have hsweep := Follows.sweep (s.sweepStart d) d
  unfold State.warningSwept
  generalize ((s.sweepStart d).sweep d).1 = m at hsweep
  have hheld : Follows (fun _ => False) m (m.settledHeld d) := .of_domains rfl
  exact ((hstart.trans hsweep fun _ h => h.elim).trans hheld fun _ _ => id).mono fun i hi =>
    hi.elim (Or.elim · False.elim id) False.elim

theorem not_user_domainSlot {d : Dom} (h : 20 ≤ (domainSlot d).val) : False := by
  rw [domainSlot_val] at h
  omega

theorem Follows.endWarning (s : State) (d : Dom) :
    Follows (fun i => 20 ≤ i.val ∨ i = domainSlot d) s (s.endWarning d).1 := by
  rw [endWarning_fst]
  exact (Follows.warningSwept s d).trans (.setValue _ _ _) fun i hi he => not_user_domainSlot (he ▸ hi)

/-- A sweep is read from the slots and service lists it starts from and the user slots it ends at. -/
theorem Swept.of_slots {s t u : State} {d : Dom} (h : Swept s t d) (hu : ∀ i : SlotNo, 20 ≤ i.val → u.slots[i] = t.slots[i]) :
    Swept s u d := by
  intro i hi
  have := h i hi
  cases hv : s.sweptTo d i with
  | none => rw [hv] at this; exact (hu i hi).trans this
  | some v => rw [hv] at this; exact this.between rfl rfl (hu i hi)

/-- The end of a warning in any state, at whatever the ports are (R101). -/
theorem endWarning_warningEnds (s : State) (d : Dom) (ports : Vector PortState 6) :
    WarningEnds { s with ports := ports } { (s.endWarning d).1 with ports := ports } d := by
  have hfollows := Follows.endWarning s d
  have hfirst := Follows.warningSwept s d
  have hslot : (s.warningSwept d).slots[domainSlot d] = s.slots[domainSlot d] := hfirst.acts.slot _ not_user_domainSlot
  have huser : ∀ i : SlotNo, 20 ≤ i.val → (s.endWarning d).1.slots[i] = ((s.sweepStart d).sweep d).1.slots[i] := fun i hi => by
    rw [endWarning_fst, (Follows.setValue _ _ _).acts.slot i fun he => not_user_domainSlot (he ▸ hi), State.warningSwept,
      settledHeld_slots]
  have hswept : Swept s (s.endWarning d).1 d := (sweep_swept (s.sweepStart d) d).of_slots huser
  have hgiven : SlotGiven s (s.endWarning d).1 (domainSlot d) (domStateByte .held) := by
    have hserv := warningSwept_services d s
    rw [endWarning_fst]
    generalize s.warningSwept d = m at hslot hserv
    exact (SlotGiven.setValue m (domainSlot d) _).between hslot hserv rfl
  have hrest := endWarning_rest s d
  generalize (s.endWarning d).1 = m at *
  refine ⟨?_, hswept, hgiven, fun j hj hne => hfollows.acts.slot j fun hc => hc.elim (Nat.not_le.mpr hj) hne, hfollows.pins⟩
  rw [hrest]
  rfl

/-- The change of an entry of the Domain Table that the end of the warning sets again is not seen in it. -/
theorem WarningEnds.of_modDomain {s m : State} {d : Dom} {f : DomainEntry → DomainEntry}
    (hf : (f s.domains[d]).serial = s.domains[d].serial) (h : WarningEnds (s.modDomain d f) m d) : WarningEnds s m d := by
  obtain ⟨hrest, hswept, hgiven, hothers, hpins⟩ := h
  refine ⟨?_, hswept, hgiven, hothers, hpins⟩
  have hserial : (s.modDomain d f).domains[d].serial = s.domains[d].serial := by
    rw [State.modDomain_get, if_pos rfl, hf]
  have hset : ∀ x, (s.modDomain d f).domains.set d x = s.domains.set d x := fun x => by
    rw [State.modDomain_domains, Vector.set_set]
  refine hrest.trans ?_
  dsimp only
  rw [hserial, hset]
  rfl

theorem Follows.depart (s : State) (d : Dom) (p : Port) : Follows (fun _ => True) s (s.depart d p) := by
  have hleft : ∀ P, Follows P s (s.modDomain d fun x => { x with awaited := x.awaited.set p false }) := fun P => .of_domains rfl
  rw [depart_eq]
  split
  · exact ((hleft fun _ => False).trans (.endWarning _ d) fun _ h => h.elim).mono fun _ _ => trivial
  · split
    · exact hleft _
    · exact .refl _ s

theorem Follows.departOn (s : State) (i : SlotNo) (p : Port) : Follows (fun _ => True) s (s.departOn i p) := by
  unfold State.departOn
  split
  · exact .refl _ s
  · exact .depart s _ p

/-- A departure in any state, at whatever the ports are (R100). -/
theorem depart_departs (s : State) (d : Dom) (p : Port) (ports : Vector PortState 6) :
    Departs { s with ports := ports } { s.depart d p with ports := ports } d p := by
  unfold Departs
  rw [depart_eq]
  by_cases hw : s.domains[d].state = .warning ∧ s.domains[d].awaited[p] = true
  · rw [if_pos hw, if_pos hw]
    by_cases hlast : s.lastAwaited d p = true
    · obtain ⟨-, -, hnone⟩ := (lastAwaited_iff s d p).mp hlast
      rw [if_pos hlast, if_pos hnone]
      exact WarningEnds.of_modDomain (s := { s with ports := ports }) (f := fun x => { x with awaited := x.awaited.set p false })
        rfl (endWarning_warningEnds (s.modDomain d _) d ports)
    · rw [if_neg hlast, if_neg fun hnone => hlast ((lastAwaited_iff s d p).mpr ⟨hw.1, hw.2, hnone⟩)]
      rfl
  · rw [if_neg hw, if_neg hw, if_neg fun hlast => hw (((lastAwaited_iff s d p).mp hlast).imp_right And.left)]

/-- A departure on account of slot i, at whatever the ports are (R48, R50, R77). -/
theorem departOn_guardGone (s : State) (i : SlotNo) (p : Port) (ports : Vector PortState 6) :
    GuardGone { s with ports := ports } { s.departOn i p with ports := ports } i p := by
  unfold GuardGone State.departOn
  cases domainOfSlot i with
  | none => rfl
  | some d => exact depart_departs s d p ports

/-- A port without a subscription on slot i has none there after a departure on its account. -/
theorem GuardGone.subAt_none {s m : State} {i : SlotNo} {p q : Port} (h : GuardGone s m i p) (hn : s.subAt i q = none) :
    m.subAt i q = none := by
  unfold GuardGone at h
  split at h
  · next d hd =>
    unfold Departs at h
    split at h
    · split at h
      · obtain ⟨-, -, hgiven, -, -⟩ := h
        rw [← domainOfSlot_some hd] at hgiven
        exact hgiven.subAt_none hn
      · rw [h]
        exact hn
    · rw [h]
      exact hn
  · rw [h]
    exact hn

end Sys2Proof.Machine
end

section
/-! SUBSCRIBE and UNSUBSCRIBE as they are answered (R44 to R51, R100). -/

namespace Sys2Proof.Machine

open Sys2Proof

/-! ## What a SUBSCRIBE asks for -/

/-- The condition a code stands for (Table 11-5); the match value is kept with EQUAL alone (R44). -/
theorem condOf_eq_some {b m : Byte} {c : Cond} : condOf b m = some c ↔ b = condByte c ∧ (c = .equal m ∨ b ≠ 0x03#8) := by
  constructor
  · intro h
    unfold condOf at h
    split at h
    · next hb => cases h; exact ⟨hb, .inr (by rw [hb]; decide)⟩
    split at h
    · next hb => cases h; exact ⟨hb, .inr (by rw [hb]; decide)⟩
    split at h
    · next hb => cases h; exact ⟨hb, .inr (by rw [hb]; decide)⟩
    split at h
    · next hb => cases h; exact ⟨hb, .inl rfl⟩
    split at h
    · next hb => cases h; exact ⟨hb, .inr (by rw [hb]; decide)⟩
    · cases h
  · rintro ⟨rfl, hm⟩
    cases c with
    | any | rise | fall | each => rfl
    | equal m' => rw [hm.resolve_right fun h => h rfl]; rfl

theorem modeOf_eq_some {b : Byte} {m : Mode} : modeOf b = some m ↔ b = modeByte m := by
  constructor
  · intro h
    unfold modeOf at h
    split at h
    · next hb => cases h; exact hb
    · split at h <;> cases h
      assumption
  · rintro rfl
    cases m <;> rfl

/-- Table 3-2 by its rows and by its refusals. -/
theorem combinationAccepted_iff (k : Kind) (c : Cond) (m : Mode) : combinationAccepted k c m = true ↔ Accepted k c m := by
  cases k with
  | level =>
    cases c with
    | any => cases m <;> simp [combinationAccepted, Accepted]
    | each | rise | fall | equal => simp [combinationAccepted, Accepted]
  | event =>
    cases c with
    | each => cases m <;> simp [combinationAccepted, Accepted]
    | any | rise | fall | equal => simp [combinationAccepted, Accepted]

theorem domainOfSlot_isSome (i : SlotNo) : (domainOfSlot i).isSome = true ↔ 12 ≤ i.val ∧ i.val < 20 := by
  unfold domainOfSlot
  split
  · next h => exact ⟨fun _ => h, fun _ => rfl⟩
  · next h => exact ⟨Bool.noConfusion, fun c => absurd c h⟩

/-- The settings read from the parameters are those they ask for (R44 to R46). -/
theorem askedSub_iff {new : Sub} {i : SlotNo} {kind : Kind} {prio cond matchValue mode cls attrs : Byte} :
    askedSub i kind prio cond matchValue mode cls attrs = some new
      ↔ AskedBy new i kind prio cond matchValue mode cls attrs := by
  constructor
  · intro h
    unfold askedSub at h
    split at h
    case isFalse => cases h
    split at h
    case isFalse => cases h
    split at h
    · next hg =>
      split at h <;> cases h
      next hi => exact ⟨rfl, rfl, rfl, rfl, hg, (if_pos rfl).mpr ⟨(domainOfSlot_isSome i).mp hi, rfl, rfl⟩⟩
    · next hg =>
      split at h
      case h_2 => cases h
      next c m hc hm =>
      split at h <;> cases h
      next ha =>
      obtain ⟨hcond, hmatch⟩ := condOf_eq_some.mp hc
      exact ⟨rfl, rfl, rfl, rfl, Bool.eq_false_of_not_eq_true hg, (if_neg Bool.false_ne_true).mpr
        ⟨hcond, modeOf_eq_some.mp hm, (combinationAccepted_iff _ _ _).mp ha, hmatch⟩⟩
  · obtain ⟨priority, c, m, deadline, keep, guard, mark⟩ := new
    rintro ⟨rfl, hp, hcls, rfl, rfl, hset⟩
    dsimp only at hp hcls hset
    have hprio : prio.toNat < 8 := hp ▸ priority.isLt
    have hdeadline : cls.toNat < 7 := hcls ▸ deadline.isLt
    obtain rfl : (⟨prio.toNat, hprio⟩ : Prio) = priority := Fin.ext hp
    obtain rfl : (⟨cls.toNat, hdeadline⟩ : DeadlineClass) = deadline := Fin.ext hcls
    rw [askedSub, dif_pos hprio, dif_pos hdeadline, guardOf, keepOf]
    split at hset
    · next hg =>
      obtain ⟨hi, rfl, rfl⟩ := hset
      rw [if_pos hg, if_pos ((domainOfSlot_isSome i).mpr hi), hg]
    · next hg =>
      obtain ⟨hcond, hmode, ha, hmatch⟩ := hset
      rw [if_neg hg, condOf_eq_some.mpr ⟨hcond, hmatch⟩, modeOf_eq_some.mpr hmode]
      dsimp only
      rw [if_pos ((combinationAccepted_iff _ _ _).mpr ha), Bool.eq_false_of_not_eq_true hg]

/-! ## A subscription altered by its port's command -/

/-- The slots with o as the subscription of p on slot i, which holds r. -/
def State.slotsWith (s : State) (i : SlotNo) (r : Record) (p : Port) (o : Option Sub) : Vector Slot 128 :=
  s.slots.set i { s.slots[i] with record := some { r with subs := r.subs.set p o } }

/-- From s to t port p's subscription on slot i, which holds r, has become o, and p has come to be owed an indication where
`owing` holds. -/
structure Resubscribes (s t : State) (i : SlotNo) (r : Record) (p : Port) (o : Option Sub) (owing : Prop) : Prop where
  rest : t = { s with slots := s.slotsWith i r p o, ports := t.ports }
  ports : PortsStand s t
  owes : ∀ q : Port, t.owes q ↔ s.owes q ∨ q = p ∧ owing

section resubscribes
variable {s t u : State} {i : SlotNo} {r : Record} {p : Port} {o o' : Option Sub} {owing owing' : Prop}

theorem Resubscribes.slots (h : Resubscribes s t i r p o owing) : t.slots = s.slotsWith i r p o := by rw [h.rest]

theorem Resubscribes.record (h : Resubscribes s t i r p o owing) :
    t.slots[i].record = some { r with subs := r.subs.set p o } := by
  rw [h.slots, State.slotsWith, set_get, if_pos rfl]

/-- The subscriptions on slot i after p's has become o, and those on the other slots. -/
theorem Resubscribes.subAt (h : Resubscribes s t i r p o owing) (hr : s.slots[i].record = some r) (j : SlotNo) (q : Port) :
    t.subAt j q = if j = i ∧ q = p then o else s.subAt j q := by
  by_cases hj : j = i
  · subst hj
    simp only [State.subAt, h.record, hr, set_get, true_and]
  · rw [if_neg fun c => hj c.1]
    exact subAt_congr (by rw [h.slots, State.slotsWith, set_get, if_neg hj]) q

theorem Resubscribes.of_updSub (hr : s.slots[i].record = some r) (p : Port) (f : Option Sub → Option Sub) :
    Resubscribes s (s.updSub i p f) i r p (f r.subs[p]) (isPending (f r.subs[p]) ≠ isPending r.subs[p]) := by
  obtain ⟨hports, howes⟩ := owed_where fun q => s.updSub_port i p f q
  have hafter : (s.updSub i p f).subAt i p = f r.subs[p] := by
    rw [State.updSub_subAt, if_pos ⟨by rw [hr]; rfl, rfl, rfl⟩, subAt_of_record hr]
  rw [hafter, subAt_of_record hr] at howes
  refine ⟨?_, hports, howes⟩
  rw [State.updSub_spec s i p f r hr]
  rfl

/-- Two alterations in turn of the one subscription. -/
theorem Resubscribes.trans (h : Resubscribes s t i r p o owing)
    (k : Resubscribes t u i { r with subs := r.subs.set p o } p o' owing') :
    Resubscribes s u i r p o' (owing ∨ owing') := by
  refine ⟨?_, fun q => by rw [k.ports q, h.ports q], fun q => ?_⟩
  · have hslots : t.slotsWith i { r with subs := r.subs.set p o } p o' = s.slotsWith i r p o' := by
      simp only [State.slotsWith, h.slots, Vector.set_set, set_get, if_true]
    have hrest := k.rest
    rw [hslots, h.rest] at hrest
    exact hrest
  · rw [k.owes, h.owes, or_assoc, ← and_or_left]

theorem Resubscribes.congr (h : Resubscribes s t i r p o owing) (hw : owing ↔ owing') : Resubscribes s t i r p o owing' :=
  { h with owes := fun q => by rw [h.owes, hw] }

theorem isPending_some_of_mark_none {new : Sub} (h : new.mark = none) : isPending (some new) = false := by
  rw [isPending, h]
  rfl

/-- A subscription comes to stand, evaluated if HELD: p is owed an indication where a mark went or came (R47 to R49). -/
theorem Resubscribes.createSub (hr : s.slots[i].record = some r) (p : Port) {new : Sub} (hnew : new.mark = none) :
    Resubscribes s (s.createSub i p new) i r p (some (new.settled r.value))
      (isPending r.subs[p] = true ∨ isPending (some (new.settled r.value)) = true) := by
  have hset := Resubscribes.of_updSub hr p fun _ => some new
  have hval : (s.updSub i p fun _ => some new).valueAt i = r.value := by rw [State.updSub_valueAt, State.valueAt, hr]
  have hevaluated := Resubscribes.of_updSub hset.record p fun o => o.map fun u => u.evaluated r.value
  rw [set_get, if_pos rfl, Option.map_some, Sub.evaluated_eq] at hevaluated
  have hcreated := hset.trans hevaluated
  rw [isPending_some_of_mark_none hnew] at hcreated
  rw [State.createSub, State.heldEvaluation, hval]
  exact hcreated.congr (or_congr (ne_comm.trans Bool.ne_false_iff) Bool.ne_false_iff)

end resubscribes

section command
variable {s : State} {p : Port} {tag : Byte} {c : Command} {rest : List Queued} {i : SlotNo} {r : Record}

theorem Takes.serving_inService (h : Takes s p tag c rest) (q : Port) (i : SlotNo) :
    (s.serving p ⟨tag, c⟩).inService q i = s.inService q i := by
  simp only [State.inService, h.serving_services]

theorem Takes.serving_poolInUse (h : Takes s p tag c rest) : (s.serving p ⟨tag, c⟩).poolInUse = s.poolInUse := by
  simp only [State.poolInUse, State.subAt, h.serving_slots]

/-- A command of p that makes p's subscription on slot i into o, after which p departs if `gone` holds, ends with the
indications of p's marks and of the changes a warning's end makes. -/
theorem Takes.resubscribed (h : Takes s p tag c rest) (hr : s.slots[i].record = some r) {o : Option Sub} {owing gone : Prop}
    [Decidable gone] {b m : State} (hb : Resubscribes (s.serving p ⟨tag, c⟩) b i r p o owing)
    (hm : m = if gone then b.departOn i p else b) {owed : List Port} (howed : ∀ q ∈ owed, q = p ∧ owing)
    (howing : owing → p ∈ owed ∨ o = none ∧ isPending r.subs[p] = true)
    (hstill : ¬ owing → isPending o = isPending r.subs[p]) (a : Answer) :
    ∃ k, (if gone then GuardGone { s.answered p rest a with slots := s.slotsWith i r p o } k i p
          else k = { s.answered p rest a with slots := s.slotsWith i r p o })
      ∧ Ends s k (m.sendAnswer p a).sendIndications owed := by
  have hanswered : { b with ports := (s.answered p rest a).ports } = { s.answered p rest a with slots := s.slotsWith i r p o } := by
    rw [hb.rest, h.serving]
    rfl
  have hfollows : Follows (fun _ => True) b m := by
    rw [hm]
    split
    · exact .departOn b i p
    · exact .refl _ b
  have hgone : if gone then GuardGone { b with ports := (s.answered p rest a).ports }
      { m with ports := (s.answered p rest a).ports } i p else m = b := by
    split
    · next hg => rw [hm, if_pos hg]; exact departOn_guardGone b i p _
    · next hg => rw [hm, if_neg hg]
  have hports : ∀ q : Port, m.ports[q] = { (s.serving p ⟨tag, c⟩).ports[q] with inIndication := m.ports[q].inIndication } :=
    fun q => by rw [hfollows.acts.ports q, hb.ports q]
  have hbefore : ∀ j q, (s.serving p ⟨tag, c⟩).subAt j q = s.subAt j q := fun j q => subAt_congr (by rw [h.serving_slots]) q
  have hrserving : (s.serving p ⟨tag, c⟩).slots[i].record = some r := by rwa [h.serving_slots]
  have hbowes : ∀ q, b.owes q ↔ q = p ∧ owing := fun q => by
    rw [hb.owes, State.owes, h.serving_indication]
    exact or_iff_right Bool.false_ne_true
  have hbsub : ∀ j q, b.subAt j q = if j = i ∧ q = p then o else s.subAt j q := fun j q => by
    rw [hb.subAt hrserving, hbefore]
  have howes : ∀ q, m.owes q ↔ PendingSetDiffers s m q ∨ q ∈ owed := by
    intro q
    rw [hfollows.acts.owes, hbowes]
    by_cases hq : q = p ∧ owing
    · refine iff_of_true (.inl hq) ?_
      obtain ⟨rfl, how⟩ := hq
      refine (howing how).symm.imp_left fun ⟨hnone, hwas⟩ => ⟨i, ?_⟩
      have hbnone : b.subAt i q = none := by rw [hbsub, if_pos ⟨rfl, rfl⟩, hnone]
      have hmnone : m.subAt i q = none := by
        split at hgone
        · exact hgone.subAt_none hbnone
        · rw [hgone, hbnone]
      rw [hmnone, subAt_of_record hr, hwas]
      exact Bool.noConfusion
    · have hstands : ∀ j, isPending (b.subAt j q) = isPending (s.subAt j q) := fun j => by
        rw [hbsub]
        split
        · next hj =>
          obtain ⟨rfl, rfl⟩ := hj
          rw [subAt_of_record hr]
          exact hstill fun how => hq ⟨rfl, how⟩
        · rfl
      rw [or_iff_right hq, or_iff_left fun hin => hq (howed q hin)]
      simp only [PendingSetDiffers, hstands]
  obtain ⟨hstand, hexact⟩ := h.ends hports a howes
  refine ⟨{ m with ports := (s.answered p rest a).ports }, ?_, rfl, hstand, hexact⟩
  rw [← hanswered]
  split
  · next hg => rwa [if_pos hg] at hgone
  · next hg => rw [if_neg hg] at hgone; rw [hgone]

end command

/-! ## UNSUBSCRIBE -/

theorem State.unsubscribeSub_eq (s : State) (i : SlotNo) (p : Port) (old : Sub) :
    s.unsubscribeSub i p old
      = if old.guard = true then (s.updSub i p fun _ => none).departOn i p else s.updSub i p fun _ => none := rfl

/-- UNSUBSCRIBE on a LIVE record by its checks (R50). -/
theorem State.unsubscribe_eq {s : State} {p : Port} {h : Handle} {i : SlotNo} {r : Record} (hn : Names s h i r)
    (hl : r.state = .live) :
    s.unsubscribe p h = match r.subs[p] with
      | none => refuse s .notSubscribed
      | some old =>
        if s.inService p i then refuse s .inService
        else { state := s.unsubscribeSub i p old, status := .ok, fields := [] } :=
  State.withHandle_names hn hl _

/-- Settles O36: past its checks, the subscription is taken out and its port departs, which `Takes.resubscribed` says. -/
theorem unsubscribeOutcomes : Obligations.UnsubscribeOutcomes := by
  unfold Obligations.UnsubscribeOutcomes
  intro s p tag h rest i r ht hn hl
  have ⟨_, _, hr⟩ := hn
  have hdone := State.unsubscribe_eq (p := p) (ht.names hn) hl
  rw [ht.serving_inService] at hdone
  refine ⟨fun hnone => ?_, fun hsome hin => ?_, fun u hu hin => ?_⟩
  · rw [hnone] at hdone
    exact ht.bare (f := fun t => t.unsubscribe p h) rfl hdone
  · obtain ⟨u, hu⟩ := Option.isSome_iff_exists.mp hsome
    rw [hu] at hdone
    dsimp only at hdone
    rw [if_pos hin] at hdone
    exact ht.bare (f := fun t => t.unsubscribe p h) rfl hdone
  · rw [hu] at hdone
    dsimp only at hdone
    rw [if_neg (by rw [hin]; exact Bool.false_ne_true)] at hdone
    have hb := Resubscribes.of_updSub (s := s.serving p ⟨tag, .unsubscribe h⟩) (by rwa [ht.serving_slots]) p fun _ => none
    have hex := State.takeCommand_takes s ht (act := fun | .unsubscribe h => some fun t => t.unsubscribe p h | _ => none)
      (f := fun t => t.unsubscribe p h) rfl
    simp only [hdone] at hex
    obtain ⟨m, hm, hends⟩ := ht.resubscribed hr hb (State.unsubscribeSub_eq _ i p u) (owed := [])
      (fun _ hq => absurd hq List.not_mem_nil)
      (fun how => .inr ⟨rfl, Bool.ne_false_iff.mp how.symm⟩) (fun how => not_not.mp how)
      { tag := tag, code := .unsubscribe, status := .ok, fields := [] }
    exact ⟨_, _, m, congrArg Host.Outcome.next hex, rfl, hm, hends⟩

/-! ## SUBSCRIBE -/

theorem AskedBy.mark {new : Sub} {i : SlotNo} {k : Kind} {prio cond matchValue mode cls attrs : Byte}
    (h : AskedBy new i k prio cond matchValue mode cls attrs) : new.mark = none := by
  obtain ⟨hmark, -⟩ := h
  exact hmark

/-- The answer tells the record's value and version, and by a bit each whether a mark stands and whether a subscription was
replaced (assumption 9). -/
theorem State.subscribeFields_eq (s : State) (i : SlotNo) (p : Port) (replaced : Bool) :
    s.subscribeFields i p replaced
      = [s.valueAt i, hiByte (s.versionAt i), loByte (s.versionAt i),
          (if isPending (s.subAt i p) = true then 1#8 else 0#8) + (if replaced = true then 2#8 else 0#8)] := by
  have hbits : ∀ a b : Bool, (if a = true then 1#8 else 0#8) ||| (if b = true then 2#8 else 0#8)
      = (if a = true then 1#8 else 0#8) + (if b = true then 2#8 else 0#8) := by decide
  rw [State.subscribeFields, hbits]
  rfl

/-- A subscription comes to stand in place of o, and p departs if a GUARD one was replaced by one that is not (R47, R48). -/
def State.resubscribe (s : State) (i : SlotNo) (p : Port) (o : Option Sub) (new : Sub) : State :=
  if o.any (·.guard) = true ∧ new.guard = false then (s.createSub i p new).departOn i p else s.createSub i p new

theorem State.resubscribe_none (s : State) (i : SlotNo) (p : Port) (new : Sub) :
    s.resubscribe i p none new = s.createSub i p new := if_neg fun h => Bool.false_ne_true h.1

theorem State.resubscribe_some (s : State) (i : SlotNo) (p : Port) (old new : Sub) :
    s.resubscribe i p (some old) new = s.replaceSub i p old new := rfl

section subscribe
variable {s : State} {p : Port} {h : Handle} {prio cond matchValue mode cls attrs : Byte} {i : SlotNo} {r : Record} {new : Sub}

/-- SUBSCRIBE on a LIVE record with codes that name no settings (R44). -/
theorem State.subscribe_unasked (hn : Names s h i r) (hl : r.state = .live)
    (hask : ∀ new, ¬ AskedBy new i r.kind prio cond matchValue mode cls attrs) :
    s.subscribe p h prio cond matchValue mode cls attrs = refuse s .badParam := by
  have hnone : askedSub i r.kind prio cond matchValue mode cls attrs = none :=
    Option.eq_none_iff_forall_ne_some.mpr fun new h => hask new (askedSub_iff.mp h)
  rw [State.subscribe, State.withHandle_names hn hl, hnone]

/-- SUBSCRIBE on a LIVE record with settings asked for, by its other checks (R46). -/
theorem State.subscribe_asked (hn : Names s h i r) (hl : r.state = .live)
    (hask : AskedBy new i r.kind prio cond matchValue mode cls attrs) :
    s.subscribe p h prio cond matchValue mode cls attrs
      = if r.subs[p].isSome = true ∧ s.inService p i = true then refuse s .inService
        else if r.subs[p] = none ∧ 192 ≤ s.poolInUse then refuse s .poolFull
        else { state := s.resubscribe i p r.subs[p] new, status := .ok
               fields := (s.resubscribe i p r.subs[p] new).subscribeFields i p r.subs[p].isSome } := by
  rw [State.subscribe, State.withHandle_names hn hl, askedSub_iff.mpr hask]
  cases r.subs[p] with
  | none =>
    simp only [Option.isSome_none, Bool.false_eq_true, false_and, if_false, true_and, State.resubscribe_none]
    rfl
  | some old =>
    simp only [Option.isSome_some, true_and, reduceCtorEq, false_and, if_false, State.resubscribe_some]

end subscribe

/-- Settles O35: past its checks, the subscription comes to stand as `Resubscribes.createSub` says, and a port that gives its
GUARD up departs, which `Takes.resubscribed` says. -/
theorem subscribeOutcomes : Obligations.SubscribeOutcomes := by
  unfold Obligations.SubscribeOutcomes
  intro s p tag h prio cond matchValue mode cls attrs rest i r ht hn hl
  have ⟨_, _, hr⟩ := hn
  refine ⟨fun hask => ?_, fun new hask => ?_⟩
  · exact ht.bare (f := fun t => t.subscribe p h prio cond matchValue mode cls attrs) rfl
      (State.subscribe_unasked (ht.names hn) hl hask)
  have hdone := State.subscribe_asked (p := p) (ht.names hn) hl hask
  rw [ht.serving_inService, ht.serving_poolInUse] at hdone
  refine ⟨fun hsome hin => ?_, fun hnone hfull => ?_, fun hpass => ?_⟩
  · rw [if_pos ⟨hsome, hin⟩] at hdone
    exact ht.bare (f := fun t => t.subscribe p h prio cond matchValue mode cls attrs) rfl hdone
  · rw [if_neg (by rw [hnone]; exact fun c => Bool.false_ne_true c.1), if_pos ⟨hnone, hfull⟩] at hdone
    exact ht.bare (f := fun t => t.subscribe p h prio cond matchValue mode cls attrs) rfl hdone
  · have hserves : ¬ (r.subs[p].isSome = true ∧ s.inService p i = true) := by
      rintro ⟨hsome, hin⟩
      obtain ⟨hnone, -⟩ | ⟨-, hout⟩ := hpass
      · rw [hnone] at hsome
        exact Bool.false_ne_true hsome
      · exact Bool.false_ne_true (hout.symm.trans hin)
    have hspace : ¬ (r.subs[p] = none ∧ 192 ≤ s.poolInUse) := by
      rintro ⟨hnone, hfull⟩
      obtain ⟨-, hroom⟩ | ⟨hsome, -⟩ := hpass
      · exact Nat.not_le.mpr hroom hfull
      · rw [hnone] at hsome
        exact Bool.false_ne_true hsome
    rw [if_neg hserves, if_neg hspace, State.subscribeFields_eq] at hdone
    have hex := State.takeCommand_takes s ht
      (act := fun
        | .subscribe h prio cond matchValue mode cls attrs => some fun t => t.subscribe p h prio cond matchValue mode cls attrs
        | _ => none)
      (f := fun t => t.subscribe p h prio cond matchValue mode cls attrs) rfl
    simp only [hdone] at hex
    have hb := Resubscribes.createSub (s := s.serving p ⟨tag, .subscribe h prio cond matchValue mode cls attrs⟩)
      (by rwa [ht.serving_slots]) p hask.mark
    obtain ⟨m, hm, hends⟩ := ht.resubscribed hr hb (m := State.resubscribe _ i p r.subs[p] new) rfl
      (owed := if isPending r.subs[p] = true ∨ isPending (some (new.settled r.value)) = true then [p] else [])
      (fun q hq => by
        split at hq
        · next how => exact ⟨List.mem_singleton.mp hq, how⟩
        · exact absurd hq List.not_mem_nil)
      (fun how => .inl (by rw [if_pos how]; exact List.mem_singleton_self p))
      (fun how => by
        obtain ⟨hwas, his⟩ := not_or.mp how
        rw [Bool.eq_false_of_not_eq_true hwas, Bool.eq_false_of_not_eq_true his]) _
    exact ⟨_, _, m, _, congrArg Host.Outcome.next hex, rfl, rfl, hm, hends⟩

end Sys2Proof.Machine
end

section
/-! What one step does, with the engine's takings named by the request or the command that is carried out: one walk over the
rows, from which what a step keeps follows by the part of each request and of each command. -/

namespace Sys2Proof.Machine

open Sys2Proof

/-- What the engine does in carrying out the command of port p; `found` is the level the board drives at the pin of a BIND_PIN. -/
def State.carryOut (s : State) (p : Port) (found : Option Level) : Command → Done
  | .declare id kind init dflt dom policy => s.declare p id kind init dflt dom policy
  | .retire h => s.retire p h
  | .claim h => s.claim p h
  | .lookup id => s.lookup id
  | .lock h => s.lock p h
  | .set h v => s.set p h v
  | .setIf h expected v => s.setIf p h expected v
  | .raise h n => s.raise p h n
  | .read h => s.read h
  | .readGroup hs => s.readGroup hs
  | .subscribe h prio cond matchValue mode cls attrs => s.subscribe p h prio cond matchValue mode cls attrs
  | .unsubscribe h => s.unsubscribe p h
  | .acquire => s.acquire p
  | .release h => s.release p h
  | .releaseTop => s.releaseTop p
  | .threshold t => s.setThreshold p t
  | .serviceList => s.serviceList p
  | .domainReset dom mode timeout => s.domainReset p dom mode timeout
  | .domainRelease dom => s.domainRelease p dom
  | .bindPin pin h dir active filter => s.bindPin p found pin h dir active filter
  | .unbindPin pin => s.unbindPin p pin
  | .pinQuery pin => s.pinQuery pin
  | .evict port => s.evict p port

/-- What the engine does in carrying out an internal request. -/
def State.carryOutRequest (s : State) : Taking → State
  | .teardown p => s.teardown p
  | .notice p v => s.setValue (linkSlot p) (noticeByte v)
  | .deadline p _ f => s.expire p f
  | .warning d serial => s.warningExpires d serial
  | .pinUpdate g serial => s.pinUpdates g serial
  | .command _ _ => s

/-- What a row does: nothing, a reset, a tick or an edge of REFCLK, an acceptance or a run-out, something at one port, or the
carrying out of an internal request or a command. -/
inductive RowCase (s t : State) : Prop where
  | idle (h : t = s)
  | cold (h : t = s.cold)
  | released (levels : Pin → Level) (hr : s.rstLow = true) (h : t = s.released levels)
  | divided (h : t = { s with divider := s.divider + 1 })
  | ticked (board : Board) (h : t = s.engaged.ticked board)
  | accepted (g : Pin) (h : t = s.modPin g PinState.accepts)
  | deadlineRanOut (p : Port) (k : Prio) (h : t = s.modDeadline p k DeadlineUnit.runOut)
  | warningRanOut (d : Dom) (h : t = s.modWarning d WarningUnit.runOut)
  | atPort (p : Port) (f : PortState → PortState) (h : t = s.modPort p f)
  | request (r : Taking) (hc : s.choice = some r) (h : t = ((s.taken r).carryOutRequest r).sendIndications)
  | command (p : Port) (q : Queued) (found : Option Level) (a : Answer) (hc : s.choice = some (.command p q))
      (h : t = (((s.serving p q).carryOut p found q.command).state.sendAnswer p a).sendIndications)

theorem RowCase.frame (s : State) (p : Port) (f : PortState → PortState) : RowCase s (s.takeFrame p f) := by
  unfold State.takeFrame
  split
  · exact .atPort p f rfl
  · exact .idle rfl

/-- A row of an internal request waits, or the request it names is carried out. -/
theorem RowCase.internal {s : State} {pick : Taking → Option (State → State)}
    (h : ∀ r act, pick r = some act → ∀ t, act t = t.carryOutRequest r) : RowCase s (s.takeInternal pick) := by
  unfold State.takeInternal
  split
  · exact .idle rfl
  · next r hc =>
    split
    · exact .idle rfl
    · next act ha => exact .request r hc (by rw [h r act ha])

/-- A row of a command waits, or the command it names is carried out. -/
theorem RowCase.taking {s : State} {p : Port} {act : Command → Option (State → Done)} (found : Option Level)
    (h : ∀ c f, act c = some f → ∀ t, f t = t.carryOut p found c) : RowCase s (s.takeCommand p act) := by
  rcases s.takeCommand_cases p act with he | ⟨q, f, a, hc, hf, he⟩
  · exact .idle he
  · exact .command p q found a hc (by rw [he, h _ f hf])

/-- What any row does. -/
theorem exec_rowCase (c : Instr) (s : State) : ∃ t, exec c s = .next t ∧ RowCase s t := by
  cases c with
  | coldReset => exact ⟨_, rfl, .cold rfl⟩
  | resetRelease board =>
    refine ⟨_, rfl, ?_⟩
    split
    · next hr => exact .released _ hr rfl
    · exact .idle rfl
  | tick board =>
    refine ⟨_, rfl, ?_⟩
    split
    · exact .ticked board rfl
    · exact .idle rfl
  | refclkRisingEdge =>
    refine ⟨_, rfl, ?_⟩
    split
    · exact .divided rfl
    · exact .idle rfl
  | filterAccept g => exact ⟨_, rfl, .accepted g rfl⟩
  | deadlineTimerRunOut p k => exact ⟨_, rfl, .deadlineRanOut p k rfl⟩
  | warningTimerRunOut d => exact ⟨_, rfl, .warningRanOut d rfl⟩
  | hello p | submit p | pull p | resetLink p | peek p | badFrame p | unknownKindFrame p => exact ⟨_, rfl, .frame s p _⟩
  | answerArrival p | eligibleIndication p | evictRequest p | teardownCompletion p => exact ⟨_, rfl, .atPort p _ rfl⟩
  | teardownRequest p | linkNotice p | deadlineExpiryRequest p | warningExpiryRequest p | pinUpdateRequest p =>
    refine ⟨_, rfl, .internal fun r act h t => ?_⟩
    split at h
    · split at h
      · next hq => rw [← Option.some.inj h]; simp only [State.carryOutRequest, hq]
      · cases h
    · cases h
  | bindPin p found =>
    refine ⟨_, rfl, .taking found fun c f h t => ?_⟩
    split at h <;> cases h
    rfl
  | declare p | retire p | claim p | lookup p | lock p | set p | setIf p | raise p | read p | readGroup p | subscribe p
  | unsubscribe p | acquire p | release p | releaseTop p | threshold p | serviceList p | domainReset p | domainRelease p
  | unbindPin p | pinQuery p | evict p =>
    refine ⟨_, rfl, .taking none fun c f h t => ?_⟩
    split at h <;> cases h
    rfl

/-- What one step of the part does; the queue of waiting steps is not looked at. -/
theorem step_rowCase {s t : State} (h : step s = .next t) : ∃ rest, RowCase { s with pending := rest } t := by
  unfold step at h
  split at h
  · cases h
    exact ⟨s.pending, .idle rfl⟩
  · next c rest _ =>
    obtain ⟨t', ht, hc⟩ := exec_rowCase c { s with pending := rest }
    rw [h] at ht
    cases ht
    exact ⟨rest, hc⟩

end Sys2Proof.Machine
end

section
/-! Eligibility and the choice of ACQUIRE (R62, R66), and what taking a subscription into service leaves (R67, R69). -/

namespace Sys2Proof.Machine

open Sys2Proof

/-! ## The selection -/

section selection
variable {s : State} {p : Port} {i : SlotNo} {u : Sub}

theorem State.aboveService_iff {k : Prio} :
    s.aboveService p k = true ↔ ∀ e ∈ s.services[p].list, ∀ w ∈ s.subAt e.slot p, k < w.priority := by
  rw [State.aboveService, List.all_eq_true]
  refine forall₂_congr fun e _ => ?_
  cases s.subAt e.slot p <;> simp

/-- A subscription of p on slot i is eligible by the conditions of R62 in the order of the model and of the statements. -/
theorem State.eligibleAt_iff : s.eligibleAt p i = true ↔ ∃ u, Eligible s p i u := by
  unfold State.eligibleAt Eligible
  cases s.subAt i p with
  | none => simp
  | some u => simp [State.aboveService_iff, and_assoc]

theorem Eligible.subAt (h : Eligible s p i u) : s.subAt i p = some u := by
  obtain ⟨hsub, -⟩ := h
  exact hsub

/-- The place of a slot in the round that starts after the pointer (R66). -/
def roundPlace (pointer i : SlotNo) : SlotNo := i - pointer - 1

theorem rotation_roundPlace (pointer i : SlotNo) : pointer + 1 + roundPlace pointer i = i := by
  unfold roundPlace
  abel

theorem roundPlace_rotation (pointer j : SlotNo) : roundPlace pointer (pointer + 1 + j) = j := by
  unfold roundPlace
  abel

/-- The first slot of the round at which c holds. -/
theorem rotationOrder_find? {pointer : SlotNo} {c : SlotNo → Bool} (hi : c i = true)
    (hfirst : ∀ j, roundPlace pointer j < roundPlace pointer i → c j = false) :
    (rotationOrder pointer).find? c = some i := by
  have hplace : (List.finRange 128).find? (c ∘ fun j => pointer + 1 + j) = some (roundPlace pointer i) := by
    rw [← Fin.find?_eq_find?_finRange, Fin.find?_eq_some_iff]
    refine ⟨by rw [Function.comp, rotation_roundPlace, hi], fun j hj => hfirst _ ?_⟩
    rwa [roundPlace_rotation]
  rw [rotationOrder, List.find?_map, hplace, Option.map_some, rotation_roundPlace]

/-- With no subscription eligible none is selected (R65). -/
theorem State.selected_none (h : ∀ i u, ¬ Eligible s p i u) : s.selected p = none := by
  refine List.findSome?_eq_none_iff.mpr fun k _ => List.find?_eq_none.mpr fun i _ hi => ?_
  obtain ⟨u, hu⟩ := State.eligibleAt_iff.mp (Bool.and_eq_true _ _ ▸ hi).1
  exact h i u hu

/-- What is selected is eligible. -/
theorem State.selected_eligible (h : s.selected p = some i) : ∃ u, Eligible s p i u := by
  obtain ⟨k, -, hk⟩ := List.exists_of_findSome?_eq_some h
  have hi := List.find?_some hk
  exact State.eligibleAt_iff.mp (Bool.and_eq_true _ _ ▸ hi).1

/-- ACQUIRE looks through the priorities from the lowest number, and through the slots of one in the round after its pointer. -/
theorem SelectedBy.selected (h : SelectedBy s p i u) : s.selected p = some i := by
  obtain ⟨helig, hbest⟩ := h
  have hmatch : ∀ {k : Prio} {j : SlotNo},
      (s.eligibleAt p j && ((s.subAt j p).map (·.priority) == some k)) = true ↔ ∃ w, Eligible s p j w ∧ w.priority = k := by
    intro k j
    rw [Bool.and_eq_true, State.eligibleAt_iff, beq_iff_eq]
    constructor
    · rintro ⟨⟨w, hw⟩, hk⟩
      rw [hw.subAt, Option.map_some, Option.some.injEq] at hk
      exact ⟨w, hw, hk⟩
    · rintro ⟨w, hw, rfl⟩
      exact ⟨⟨w, hw⟩, by rw [hw.subAt, Option.map_some]⟩
  have hown : (rotationOrder s.services[p].rotation[u.priority]).find?
      (fun j => s.eligibleAt p j && ((s.subAt j p).map (·.priority) == some u.priority)) = some i := by
    refine rotationOrder_find? (hmatch.mpr ⟨u, helig, rfl⟩) fun j hj => Bool.eq_false_iff.mpr fun hc => ?_
    obtain ⟨w, hw, hk⟩ := hmatch.mp hc
    rcases hbest j w hw.subAt hw with hlt | ⟨-, hle⟩
    · exact absurd hk.symm (Fin.ne_of_lt hlt)
    · exact absurd hj (Nat.not_lt.mpr hle)
  unfold State.selected
  rw [← Fin.findSome?_eq_findSome?_finRange, Fin.findSome?_eq_some_iff]
  refine ⟨u.priority, hown, fun k hk => List.find?_eq_none.mpr fun j _ hj => ?_⟩
  obtain ⟨w, hw, rfl⟩ := hmatch.mp hj
  rcases hbest j w hw.subAt hw with hlt | ⟨heq, -⟩
  · exact absurd hk (Fin.lt_asymm hlt)
  · exact absurd heq.symm (Fin.ne_of_lt hk)

end selection

/-! ## Taking into service -/

section service
variable {s : State} {p : Port} {i : SlotNo} {r : Record} {u : Sub}

/-- The service state of a port that takes its subscription u on slot i into service under this token (R67, R69). -/
def Service.serving (v : Service) (i : SlotNo) (u : Sub) (token : Byte) : Service :=
  { list := v.list ++ [{ slot := i, token := token, overdue := false }]
    threshold := v.threshold
    rotation := v.rotation.set u.priority i
    tokenCounter := token }

theorem deadlineLength_of_ne_zero {c : DeadlineClass} (h : c ≠ 0) : deadlineLength c = some (4 ^ c.val) := by
  revert c
  decide

theorem State.startDeadline_get (s : State) (p q : Port) (k j : Prio) (i : SlotNo) (token : Byte) (c : DeadlineClass) :
    (s.startDeadline p k i token c).deadlines[q][j]
      = if q = p ∧ j = k ∧ c ≠ 0 then
          { s.deadlines[q][j] with timer := some { slot := i, token := token, remaining := 4 ^ c.val } }
        else s.deadlines[q][j] := by
  unfold State.startDeadline
  by_cases hc : c = 0
  · rw [(deadlineLength_none c).mpr hc, if_neg fun h => h.2.2 hc]
  · rw [deadlineLength_of_ne_zero hc]
    dsimp only
    rw [State.modDeadline_get]
    by_cases hqj : q = p ∧ j = k
    · obtain ⟨rfl, rfl⟩ := hqj
      rw [if_pos ⟨rfl, rfl⟩, if_pos ⟨rfl, rfl, hc⟩]
    · rw [if_neg hqj, if_neg fun h => hqj ⟨h.1, h.2.1⟩]

/-- A deadline timer is started in any state as in another with the same timers. -/
theorem State.startDeadline_of {s t : State} (h : t.deadlines = s.deadlines) (p : Port) (k : Prio) (i : SlotNo) (token : Byte)
    (c : DeadlineClass) : t.startDeadline p k i token c = { t with deadlines := (s.startDeadline p k i token c).deadlines } := by
  unfold State.startDeadline
  split
  · rw [← h]
  · rw [State.modDeadline, State.modDeadline_deadlines, h]

/-- What taking u into service leaves: its mark gone, the service state, the deadline timer, and an indication owed to p. -/
theorem State.takeIntoService_eq (hr : s.slots[i].record = some r) (hu : r.subs[p] = some u) (token : Byte) :
    s.takeIntoService p i u token
      = { s with
          slots := s.slotsWith i r p (some { u with mark := none })
          services := s.services.set p (s.services[p].serving i u token)
          deadlines := (s.startDeadline p u.priority i token u.cls).deadlines
          ports := s.ports.set p { s.ports[p] with inIndication := some false } } := by
  have hmarked := State.updSub_spec (s.modService p fun v => { v with rotation := v.rotation.set u.priority i }) i p
    (fun o => o.map fun w => { w with mark := none }) r hr
  unfold State.takeIntoService
  dsimp only
  refine (congrArg (State.owe · p) (State.startDeadline_of (s := s) ?_ p u.priority i token u.cls)).trans ?_
  · rw [State.modService_deadlines, State.updSub_deadlines, State.modService_deadlines]
  rw [hmarked, hu]
  simp only [State.owe, State.modPort, State.modService, Option.map_some, Service.serving, State.slotsWith, set_get, if_true,
    Vector.set_set]
  split
  · rfl
  · simp only [set_get, if_true, Vector.set_set]

/-- The subscriptions where p's on slot i, which holds r, is o. -/
theorem subAt_of_slotsWith {t : State} {o : Option Sub} (ht : t.slots = s.slotsWith i r p o) (hr : s.slots[i].record = some r)
    (j : SlotNo) (q : Port) : t.subAt j q = if j = i ∧ q = p then o else s.subAt j q := by
  by_cases hj : j = i
  · subst hj
    have hrec : t.slots[j].record = some { r with subs := r.subs.set p o } := by
      rw [ht, State.slotsWith, set_get, if_pos rfl]
    rw [subAt_of_record hrec, subAt_of_record hr, set_get]
    simp only [true_and]
  · rw [if_neg fun c => hj c.1]
    exact subAt_congr (by rw [ht, State.slotsWith, set_get, if_neg hj]) q

end service

end Sys2Proof.Machine
end

section
/-! What a stage leaves of the service lists (R70): `ServedKept` says that no service entry has come, and that each subscription
in service has kept its priority. Every stage of every row is so, but the taking into service of an ACQUIRE. -/

namespace Sys2Proof.Machine

open Sys2Proof

/-! ## Slots in service -/

/-- The slots p has in service, oldest first (R70). -/
def State.servedSlots (s : State) (p : Port) : List SlotNo := s.services[p].list.map (·.slot)

/-- The priority number of p's subscription on slot i, if it has one. -/
def State.priorityOf (s : State) (p : Port) (i : SlotNo) : Option Prio := (s.subAt i p).map (·.priority)

theorem inService_iff {s : State} {p : Port} {i : SlotNo} : s.inService p i = true ↔ i ∈ s.servedSlots p := by
  simp [State.inService, State.servedSlots]

theorem State.priorityAt_eq (s : State) (p : Port) (i : SlotNo) : s.priorityAt p i = (s.priorityOf p i).elim 8 (·.val) := by
  unfold State.priorityAt State.priorityOf
  cases s.subAt i p <;> rfl

/-- R70, read from the slots in service. -/
theorem serviceListsOrdered_iff {s : State} :
    ServiceListsOrdered s ↔ ∀ p : Port, (∀ i ∈ s.servedSlots p, (s.priorityOf p i).isSome = true)
      ∧ (s.servedSlots p).Pairwise fun older newer => s.priorityAt p newer < s.priorityAt p older := by
  refine forall_congr' fun p => and_congr ?_ ?_
  · simp [State.servedSlots, State.priorityOf]
  · rw [State.servedSlots, List.pairwise_map]

/-- A slot on which p has no subscription is not in its service list. -/
theorem ServiceListsOrdered.idle {s : State} (h : ServiceListsOrdered s) {p : Port} {i : SlotNo} (hn : s.subAt i p = none) :
    s.inService p i = false := by
  rw [← Bool.not_eq_true, inService_iff]
  intro hi
  have hsome := (serviceListsOrdered_iff.mp h p).1 i hi
  rw [State.priorityOf, hn] at hsome
  cases hsome

/-! ## What a stage keeps -/

/-- From s to t no service entry has come, and each subscription in service keeps its priority number. -/
structure ServedKept (s t : State) : Prop where
  slots : ∀ p : Port, (t.servedSlots p).Sublist (s.servedSlots p)
  priority : ∀ (p : Port) (i : SlotNo), t.inService p i = true → t.priorityOf p i = s.priorityOf p i

theorem ServedKept.inService {s t : State} (h : ServedKept s t) {p : Port} {i : SlotNo} (hi : t.inService p i = true) :
    s.inService p i = true :=
  inService_iff.mpr ((h.slots p).subset (inService_iff.mp hi))

theorem ServedKept.ordered {s t : State} (h : ServedKept s t) (hs : ServiceListsOrdered s) : ServiceListsOrdered t := by
  refine serviceListsOrdered_iff.mpr fun p => ?_
  obtain ⟨hsome, hdecreasing⟩ := serviceListsOrdered_iff.mp hs p
  have hkept : ∀ i ∈ t.servedSlots p, t.priorityOf p i = s.priorityOf p i := fun i hi => h.priority p i (inService_iff.mpr hi)
  refine ⟨fun i hi => ?_, (hdecreasing.sublist (h.slots p)).imp_of_mem fun {i j} hi hj hlt => ?_⟩
  · rw [hkept i hi]
    exact hsome i ((h.slots p).subset hi)
  · rw [State.priorityAt_eq, State.priorityAt_eq, hkept i hi, hkept j hj, ← State.priorityAt_eq, ← State.priorityAt_eq]
    exact hlt

theorem ServedKept.refl (s : State) : ServedKept s s := ⟨fun _ => .refl _, fun _ _ _ => rfl⟩

theorem ServedKept.trans {s t u : State} (h : ServedKept s t) (k : ServedKept t u) : ServedKept s u :=
  ⟨fun p => (k.slots p).trans (h.slots p), fun p i hi => (k.priority p i hi).trans (h.priority p i (k.inService hi))⟩

theorem ServedKept.foldl {α : Type} {op : State → α → State} (h : ∀ s a, ServedKept s (op s a)) (l : List α) (s : State) :
    ServedKept s (l.foldl op s) := by
  induction l generalizing s with
  | nil => exact .refl s
  | cons a l ih => exact (h s a).trans (ih (op s a))

/-- The service lists stand, and so do the priorities of what is in service. -/
theorem ServedKept.of_priorities {s t : State} (hserv : t.services = s.services)
    (h : ∀ p i, s.inService p i = true → t.priorityOf p i = s.priorityOf p i) : ServedKept s t := by
  have hlists : ∀ p, t.servedSlots p = s.servedSlots p := fun p => by rw [State.servedSlots, hserv, State.servedSlots]
  exact ⟨fun p => hlists p ▸ .refl _, fun p i hi => h p i (inService_iff.mpr (hlists p ▸ inService_iff.mp hi))⟩

theorem priorityOf_congr {s t : State} {i : SlotNo} (h : t.slots[i].record = s.slots[i].record) (p : Port) :
    t.priorityOf p i = s.priorityOf p i := by
  rw [State.priorityOf, subAt_congr h, State.priorityOf]

theorem ServedKept.of_lists {s t : State} (hs : t.slots = s.slots)
    (hl : ∀ p, (t.servedSlots p).Sublist (s.servedSlots p)) : ServedKept s t :=
  ⟨hl, fun _ _ _ => priorityOf_congr (by rw [hs]) _⟩

theorem ServedKept.of_same {s t : State} (hs : t.slots = s.slots) (hserv : t.services = s.services) : ServedKept s t :=
  .of_priorities hserv fun _ _ _ => priorityOf_congr (by rw [hs]) _

/-- A port's own part of its service state is altered, its list at most shortened. -/
theorem ServedKept.modService {s : State} {p : Port} {f : Service → Service}
    (hf : ((f s.services[p]).list.map (·.slot)).Sublist (s.servedSlots p)) : ServedKept s (s.modService p f) := by
  refine .of_lists rfl fun q => ?_
  rw [State.servedSlots, State.modService_get]
  split
  · next hq => rw [hq]; exact hf
  · exact .refl _

/-! ## Operations on records -/

theorem ServedKept.modRecord (s : State) (i : SlotNo) (f : Record → Record) (hf : ∀ r, (f r).subs = r.subs) :
    ServedKept s (s.modRecord i f) := by
  refine .of_priorities rfl fun p j _ => ?_
  by_cases hj : j = i
  · subst hj
    simp only [State.priorityOf, State.subAt, State.modRecord_record, if_true]
    cases s.slots[j].record with
    | none => rfl
    | some r => simp only [Option.map_some, hf]
  · exact priorityOf_congr (by rw [State.modRecord_record, if_neg hj]) p

theorem Sub.afterChange_priority (u : Sub) (serving : Bool) (old new : Byte) (n : Nat) :
    (u.afterChange serving old new n).priority = u.priority := by
  rw [u.afterChange_settings]

theorem ServedKept.change (s : State) (i : SlotNo) (v : Byte) (n : Nat) : ServedKept s (s.change i v n) := by
  refine .of_priorities (s.change_services i v n) fun p j _ => ?_
  by_cases hj : j = i
  · subst hj
    simp only [State.priorityOf, State.subAt, State.change_record, if_true]
    cases s.slots[j].record with
    | none => rfl
    | some r =>
      simp only [Option.map_some, Record.changed, ofFn_get, Option.map_map, Function.comp_def, Sub.afterChange_priority]
  · exact priorityOf_congr (by rw [State.change_record, if_neg hj]) p

theorem ServedKept.setValue (s : State) (i : SlotNo) (v : Byte) : ServedKept s (s.setValue i v) := by
  rw [State.setValue_eq]
  split
  · exact .refl s
  · exact .change s i v 0

/-- A subscription altered where it is not in service, or not in its priority. -/
theorem ServedKept.updSub {s : State} {i : SlotNo} {p : Port} {f : Option Sub → Option Sub}
    (h : s.inService p i = true → (f (s.subAt i p)).map (·.priority) = s.priorityOf p i) : ServedKept s (s.updSub i p f) := by
  refine .of_priorities (s.updSub_services i p f) fun q j hj => ?_
  rw [State.priorityOf, State.updSub_subAt]
  split
  · next hc =>
    obtain ⟨-, rfl, rfl⟩ := hc
    exact h hj
  · rfl

theorem ServedKept.updIdle {s : State} {i : SlotNo} {p : Port} (h : s.inService p i = false) (f : Option Sub → Option Sub) :
    ServedKept s (s.updSub i p f) :=
  .updSub fun hi => absurd (h.symm.trans hi) Bool.false_ne_true

theorem Sub.settled_priority (u : Sub) (v : Byte) : (u.settled v).priority = u.priority := by
  unfold Sub.settled
  split <;> rfl

theorem ServedKept.heldEvaluation (s : State) (i : SlotNo) (p : Port) : ServedKept s (s.heldEvaluation i p) := by
  refine .updSub fun _ => ?_
  rw [Option.map_map, State.priorityOf]
  simp only [Function.comp_def, Sub.evaluated_eq, Sub.settled_priority]

theorem State.noSubsAt_subAt {s : State} {i : SlotNo} (h : s.noSubsAt i = true) (q : Port) : s.subAt i q = none := by
  unfold State.subAt
  cases hr : s.slots[i].record with
  | none => rfl
  | some r =>
    rw [State.noSubsAt, hr] at h
    exact r.noSubs_iff.mp h q

/-- A slot freed of a record without subscriptions. -/
theorem ServedKept.freeSlot {s : State} {i : SlotNo} (h : s.noSubsAt i = true) : ServedKept s (s.freeSlot i) := by
  refine .of_priorities (s.freeSlot_services i) fun p j _ => ?_
  by_cases hj : j = i
  · subst hj
    rw [State.priorityOf, State.priorityOf, State.noSubsAt_subAt h, State.subAt, State.freeSlot_record, if_pos rfl]
  · exact priorityOf_congr (by rw [State.freeSlot_record, if_neg hj]) p

theorem ServedKept.removeDraining {s : State} {i : SlotNo} {p : Port} (h : s.inService p i = false) :
    ServedKept s (s.removeDraining i p) := by
  rw [State.removeDraining_eq]
  split
  · next hn => exact .trans (.updIdle h _) (.freeSlot hn)
  · exact .updIdle h _

/-- A retirement keeps what is in service (R16). -/
theorem ServedKept.retireRecord {s : State} {i : SlotNo} {r : Record} (hr : s.slots[i].record = some r) :
    ServedKept s (s.retireRecord i) := by
  refine .of_priorities (s.retireRecord_services i r hr) fun p j hj => ?_
  by_cases hji : j = i
  · subst hji
    have hsub : (s.retireRecord j).subAt j p = s.retiredSub j p r.subs[p] := by
      rw [State.subAt, State.retireRecord_slot s j r hr, if_pos rfl]
      by_cases hno : ∀ q : Port, s.retiredSub j q r.subs[q] = none
      · simp only [if_pos hno, hno p]
      · simp only [if_neg hno, State.retiredRecord, ofFn_get]
    rw [State.priorityOf, hsub, State.retiredSub, if_pos hj, State.priorityOf, subAt_of_record hr, unmarked, Option.map_map]
    rfl
  · exact priorityOf_congr (by rw [State.retireRecord_slot s i r hr, if_neg hji]) p

/-! ## Operations of several stages -/

theorem ServedKept.sweep (s : State) (d : Dom) : ServedKept s (s.sweep d).1 := by
  rw [sweep_fst]
  refine .foldl (fun t i => ?_) userSlots s
  unfold State.sweptAt
  split
  · exact .refl t
  · exact .setValue t i _

theorem ServedKept.modDomain (s : State) (d : Dom) (f : DomainEntry → DomainEntry) : ServedKept s (s.modDomain d f) :=
  .of_same rfl rfl

theorem ServedKept.modPin (s : State) (g : Pin) (f : PinState → PinState) : ServedKept s (s.modPin g f) := .of_same rfl rfl

theorem ServedKept.enterHeld (s : State) (d : Dom) : ServedKept s (s.enterHeld d) :=
  .trans (.modDomain s d _) (.setValue _ _ _)

theorem ServedKept.endWarning (s : State) (d : Dom) : ServedKept s (s.endWarning d).1 := by
  have hswept : ServedKept s (s.warningSwept d) :=
    .trans (.of_same (sweepStart_slots s d) (sweepStart_services s d))
      (.trans (.sweep _ d) (.of_same (settledHeld_slots _ d) (settledHeld_services _ d)))
  rw [endWarning_fst]
  exact hswept.trans (.setValue _ _ _)

theorem ServedKept.depart (s : State) (d : Dom) (p : Port) : ServedKept s (s.depart d p) := by
  rw [depart_eq]
  split
  · exact .trans (.modDomain s d _) (.endWarning _ d)
  · split
    · exact .modDomain s d _
    · exact .refl s

theorem ServedKept.departOn (s : State) (i : SlotNo) (p : Port) : ServedKept s (s.departOn i p) := by
  unfold State.departOn
  split
  · exact .refl s
  · exact .depart s _ p

theorem ServedKept.unbindFrom (s : State) (g : Pin) (b : Binding) : ServedKept s (s.unbindFrom g b) := by
  unfold State.unbindFrom
  split
  · exact .trans (.modPin s g _) (.modRecord _ b.slot _ fun _ => rfl)
  · exact .modPin s g _

/-- p's entry on slot i leaves its list, with its timer. -/
theorem ServedKept.entryGone (s : State) (p : Port) (i : SlotNo) :
    ServedKept s ((s.cancelFor p i).removeEntry p i) := by
  have hcancelled : ServedKept s (s.cancelFor p i) := by
    rw [State.cancelFor_frame]
    exact .of_same rfl rfl
  exact hcancelled.trans (.modService (List.filter_sublist.map _))

theorem entryGone_inService (s : State) (p : Port) (i : SlotNo) :
    ((s.cancelFor p i).removeEntry p i).inService p i = false := by
  rw [State.removeEntry_inService, if_pos ⟨rfl, rfl⟩]

/-! ## Internal requests -/

theorem ServedKept.dropEntry (p : Port) (s : State) (e : Entry) : ServedKept s (State.dropEntry p s e) := by
  unfold State.dropEntry
  dsimp only
  split
  · exact .trans (.entryGone s p e.slot) (.removeDraining (entryGone_inService s p e.slot))
  · exact .entryGone s p e.slot

/-- Stage 2 alters subscriptions of p alone, which by then has none in service (R152, R153). -/
theorem ServedKept.settleSubs {s : State} {p : Port} (h : s.services[p].list = []) : ServedKept s (s.settleSubs p) := by
  refine .of_priorities (settleSubs_services p s) fun q i hq => ?_
  have hqp : q ≠ p := by
    rintro rfl
    rw [inService_iff, State.servedSlots, h] at hq
    cases hq
  rw [State.priorityOf, State.subAt, settleSubs_record, State.priorityOf, State.subAt]
  cases s.slots[i].record with
  | none => rfl
  | some r =>
    simp only [Option.map_some, Record.settledFor]
    split
    · simp only [set_get, if_neg hqp]
    · rfl

theorem ServedKept.resetAttention (s : State) (p : Port) : ServedKept s (s.resetAttention p) := .modService (.refl _)

theorem ServedKept.attended (s : State) (p : Port) : ServedKept s (s.attended p) := by
  have hdropped : ServedKept s (s.dropService p) := .foldl (.dropEntry p) _ s
  have hempty : (s.dropService p).services[p].list = [] := by rw [dropService_services, if_pos rfl]
  exact (hdropped.trans (.settleSubs hempty)).trans (.resetAttention _ p)

theorem ServedKept.leaveAwaited (s : State) (p : Port) : ServedKept s (s.leaveAwaited p) := by
  unfold State.leaveAwaited
  exact .foldl (fun t d => .depart t d p) _ s

theorem ServedKept.orphanSlot (p : Port) (s : State) (i : SlotNo) : ServedKept s (State.orphanSlot p s i) := by
  rcases orphanSlot_cases p s i with h | ⟨r, hr, h | h⟩
  · rw [h]
    exact .refl s
  · rw [h]
    exact .retireRecord hr
  · rw [h]
    exact .trans (.modRecord s i Record.disowned fun _ => rfl) (.setValue _ i _)

theorem ServedKept.orphanRecords (s : State) (p : Port) : ServedKept s (s.orphanRecords p) := .foldl (.orphanSlot p) _ s

theorem ServedKept.completeTeardown (s : State) (p : Port) : ServedKept s (s.completeTeardown p) := .of_same rfl rfl

theorem ServedKept.teardown (s : State) (p : Port) : ServedKept s (s.teardown p) := by
  have horphaned : ServedKept s (s.orphaned p) := by
    unfold State.orphaned State.departed
    exact ((ServedKept.attended s p).trans (.leaveAwaited _ p)).trans (.orphanRecords _ p)
  have hvalues : ServedKept s (s.tornDown p) := by
    unfold State.tornDown State.settleSystemRecords
    exact horphaned.trans (.trans (.setValue _ _ _) (.setValue _ _ _))
  rw [teardown_eq]
  exact hvalues.trans (.completeTeardown _ p)

/-- An expiry marks entries and leaves them on their slots (R87). -/
theorem ServedKept.expire (s : State) (p : Port) (f : DeadlineFlag) : ServedKept s (s.expire p f) := by
  unfold State.expire
  split
  · refine .trans (.modService ?_) (.setValue _ _ _)
    have hslots : (s.services[p].list.map fun e => if e.slot = f.slot ∧ e.token = f.token then { e with overdue := true } else e).map
        (·.slot) = s.servedSlots p := by
      rw [List.map_map]
      refine List.map_congr_left fun e _ => ?_
      rw [Function.comp]
      split <;> rfl
    exact hslots ▸ .refl _
  · exact .refl s

theorem ServedKept.warningExpires (s : State) (d : Dom) (serial : Byte) : ServedKept s (s.warningExpires d serial) := by
  unfold State.warningExpires
  split
  · exact .endWarning s d
  · exact .refl s

theorem ServedKept.pinUpdates (s : State) (g : Pin) (serial : Byte) : ServedKept s (s.pinUpdates g serial) := by
  unfold State.pinUpdates
  split
  · split
    · exact .refl s
    · split
      · exact .refl s
      · exact .setValue s _ _
  · exact .refl s

theorem ServedKept.carryOutRequest (s : State) (r : Taking) : ServedKept s (s.carryOutRequest r) := by
  cases r with
  | teardown p => exact .teardown s p
  | notice p v => exact .setValue s _ _
  | deadline p k f => exact .expire s p f
  | warning d serial => exact .warningExpires s d serial
  | pinUpdate g serial => exact .pinUpdates s g serial
  | command p q => exact .refl s

end Sys2Proof.Machine
end

section
/-! The service lists stay ordered over every row (R70): every command but ACQUIRE keeps what is in service, and ACQUIRE adds an
entry of a priority number below all the others (R62). -/

namespace Sys2Proof.Machine

open Sys2Proof

/-! ## Checks of commands -/

section checks
variable {K : State → Prop} {s : State}

/-- What holds of the state before a command, and of its outcome past the handle check, holds after it. -/
theorem withHandle_keeps {pass : Bool} {h : Handle} {act : SlotNo → Record → Done} (hs : K s)
    (hact : ∀ i r, s.slots[i].record = some r → K (act i r).state) : K (s.withHandle pass h act).state := by
  unfold State.withHandle
  cases hc : s.checkHandle pass h with
  | error e => exact hs
  | ok x => exact hact x.1 x.2 (State.checkHandle_record hc)

theorem controlOnly_keeps {p : Port} {act : State → Done} (hs : K s) (hact : K (act s).state) :
    K (controlOnly s p act).state := by
  unfold controlOnly
  split
  · exact hs
  · exact hact

theorem refusedIf_keeps {c : Prop} [Decidable c] {e : Status} {d : Done} (hs : K s) (hd : ¬ c → K d.state) :
    K (if c then refuse s e else d).state := by
  split
  · exact hs
  · next hc => exact hd hc

end checks

/-! ## Commands that keep what is in service -/

section commands
variable (s : State) (p : Port)

theorem ServedKept.retireCommand (h : Handle) : ServedKept s (s.retire p h).state := by
  refine withHandle_keeps (.refl s) fun i r hr => refusedIf_keeps (.refl s) fun _ => refusedIf_keeps (.refl s) fun _ => ?_
  split
  · dsimp only
    exact .retireRecord hr
  · exact .refl s

theorem ServedKept.claim (h : Handle) : ServedKept s (s.claim p h).state := by
  refine withHandle_keeps (.refl s) fun i r _ => refusedIf_keeps (.refl s) fun _ => refusedIf_keeps (.refl s) fun _ => ?_
  split
  · exact .modRecord s i _ fun _ => rfl
  · split <;> exact .refl s
  · exact .refl s
  · exact .refl s

theorem ServedKept.lock (h : Handle) : ServedKept s (s.lock p h).state :=
  controlOnly_keeps (.refl s) (withHandle_keeps (.refl s) fun i _ _ => refusedIf_keeps (.refl s) fun _ =>
    refusedIf_keeps (.refl s) fun _ => .modRecord s i _ fun _ => rfl)

/-- A record comes to stand in a slot on which nobody has a subscription. -/
theorem Declares.servedKept {s t : State} {i : SlotNo} {r : Record} (h : Declares s t i r) (hs : ServiceListsOrdered s) :
    ServedKept s t := by
  have hserv : t.services = s.services := by rw [h.next]
  refine .of_priorities hserv fun q j hj => priorityOf_congr ?_ q
  rw [h.record, if_neg]
  rintro rfl
  have hnone : s.subAt j q = none := by rw [State.subAt, h.free]
  exact Bool.false_ne_true ((hs.idle hnone).symm.trans hj)

theorem ServedKept.declareCommand {s : State} (hs : ServiceListsOrdered s) (id : Half) (kind init dflt dom policy : Byte) :
    ServedKept s (s.declare p id kind init dflt dom policy).state := by
  rcases State.declare_cases s p id kind init dflt dom policy with h | ⟨i, r, h⟩
  · rw [h]
    exact .refl s
  · exact h.servedKept hs

theorem ServedKept.writeValue (i : SlotNo) (r : Record) (v : Byte) : ServedKept s (s.writeValue i r v).state := by
  unfold State.writeValue
  split
  · exact .refl s
  · exact .change s i v 0

theorem ServedKept.set (h : Handle) (v : Byte) : ServedKept s (s.set p h v).state := by
  refine withHandle_keeps (.refl s) fun i r _ => refusedIf_keeps (.refl s) fun _ => ?_
  split
  · exact .refl s
  · exact .writeValue s i r v

theorem ServedKept.setIf (h : Handle) (e : Half) (v : Byte) : ServedKept s (s.setIf p h e v).state := by
  refine withHandle_keeps (.refl s) fun i r _ => refusedIf_keeps (.refl s) fun _ => ?_
  split
  · exact .refl s
  · split
    · exact .refl s
    · exact .writeValue s i r v

theorem ServedKept.raise (h : Handle) (n : Byte) : ServedKept s (s.raise p h n).state := by
  refine withHandle_keeps (.refl s) fun i r _ => refusedIf_keeps (.refl s) fun _ => refusedIf_keeps (.refl s) fun _ => ?_
  split
  · exact .refl s
  · exact .change s i _ _

/-- A subscription comes to stand where p has none in service. -/
theorem ServedKept.createSub {s : State} {p : Port} {i : SlotNo} (h : s.inService p i = false) (new : Sub) :
    ServedKept s (s.createSub i p new) :=
  .trans (.updIdle h _) (.heldEvaluation _ i p)

/-- A subscription in service is not replaced, and where one is created none was in service (R46). -/
theorem ServedKept.subscribe {s : State} (hs : ServiceListsOrdered s) (h : Handle) (prio cond m mode cls attrs : Byte) :
    ServedKept s (s.subscribe p h prio cond m mode cls attrs).state := by
  refine withHandle_keeps (.refl s) fun i r hr => ?_
  split
  · exact .refl s
  · next new _ =>
    split
    · next old _ =>
      refine refusedIf_keeps (.refl s) fun hidle => ?_
      have hcreated := ServedKept.createSub (Bool.eq_false_of_not_eq_true hidle) new
      dsimp only [State.replaceSub]
      split
      · exact hcreated.trans (.departOn _ i p)
      · exact hcreated
    · next hnone =>
      exact refusedIf_keeps (.refl s) fun _ => .createSub (hs.idle (by rw [subAt_of_record hr, hnone])) new

theorem ServedKept.unsubscribe (h : Handle) : ServedKept s (s.unsubscribe p h).state := by
  refine withHandle_keeps (.refl s) fun i r _ => ?_
  split
  · exact .refl s
  · refine refusedIf_keeps (.refl s) fun hidle => ?_
    have hgone := ServedKept.updIdle (Bool.eq_false_of_not_eq_true hidle) fun _ => none
    dsimp only [State.unsubscribeSub]
    split
    · exact hgone.trans (.departOn _ i p)
    · exact hgone

theorem ServedKept.overdueBack (e : Entry) : ServedKept s (s.overdueBack p e) := by
  unfold State.overdueBack
  split
  · exact .setValue s _ _
  · exact .refl s

theorem ServedKept.releaseSub {s : State} {p : Port} {i : SlotNo} (h : s.inService p i = false) :
    ServedKept s (s.releaseSub i p) := by
  unfold State.releaseSub
  split
  · exact .removeDraining h
  · exact .heldEvaluation s i p

theorem ServedKept.acknowledge (i : SlotNo) (guard : Bool) : ServedKept s (s.acknowledge i p guard) := by
  unfold State.acknowledge
  split
  · exact .departOn s i p
  · exact .refl s

theorem State.overdueBack_services (e : Entry) : (s.overdueBack p e).services = s.services := by
  unfold State.overdueBack
  split
  · exact s.setValue_services _ _
  · rfl

theorem ServedKept.owe : ServedKept s (s.owe p) := .of_same rfl rfl

/-- The entry ended has left the list by the time its subscription is settled or removed (R72). -/
theorem ServedKept.endEntry (e : Entry) : ServedKept s (s.endEntry p e) := by
  have hidle : (((s.cancelFor p e.slot).removeEntry p e.slot).overdueBack p e).inService p e.slot = false := by
    rw [State.inService, State.overdueBack_services]
    exact entryGone_inService s p e.slot
  have hback := (ServedKept.entryGone s p e.slot).trans (.overdueBack _ p e)
  exact ((hback.trans (.releaseSub hidle)).trans (.acknowledge _ p e.slot _)).trans (.owe _ p)

theorem ServedKept.release (h : Handle) : ServedKept s (s.release p h).state := by
  refine withHandle_keeps (.refl s) fun i r _ => ?_
  split
  · exact .refl s
  · exact .endEntry s p _

theorem ServedKept.releaseTop : ServedKept s (s.releaseTop p).state := by
  unfold State.releaseTop
  split
  · exact .refl s
  · exact .endEntry s p _

theorem ServedKept.setThreshold (t : Byte) : ServedKept s (s.setThreshold p t).state := by
  unfold State.setThreshold
  split
  · exact .trans (.modService (.refl _)) (.owe _ p)
  · exact .refl s

theorem ServedKept.startWarning (d : Dom) (timeout : Byte) : ServedKept s (s.startWarning d timeout) := by
  have htimer : ∀ t : State, ServedKept t (t.startWarningTimer d (s.domains[d].serial + 1#8) timeout) := fun t => by
    unfold State.startWarningTimer
    split
    · exact .refl t
    · exact .of_same rfl rfl
  exact .trans (.trans (.modDomain s d _) (.setValue _ _ _)) (htimer _)

theorem ServedKept.resetNow (d : Dom) : ServedKept s (s.resetNow d).state := by
  dsimp only [State.resetNow]
  exact .trans (.sweep s d) (.enterHeld _ d)

theorem ServedKept.domainReset (dom mode timeout : Byte) : ServedKept s (s.domainReset p dom mode timeout).state := by
  refine controlOnly_keeps (.refl s) ?_
  split
  · next d m _ _ =>
    unfold State.resetDomain
    split
    · split
      · exact .startWarning s d timeout
      · exact .resetNow s d
    · exact .resetNow s d
    · exact .refl s
    · dsimp only
      exact .endWarning s d
    · exact .refl s
  · exact .refl s

theorem ServedKept.cancelWarning (d : Dom) : ServedKept s (s.cancelWarning d) := by
  have htimer : ServedKept s (s.cancelWarningTimer d) := .of_same rfl rfl
  exact (htimer.trans (.modDomain _ d _)).trans (.setValue _ _ _)

theorem ServedKept.reapply (d : Dom) : ServedKept s (s.reapply d).1 := by
  have hslots : ∀ (l : List SlotNo) (acc : State × Nat), ServedKept acc.1 (l.foldl (State.reapplySlot d) acc).1 := by
    intro l
    induction l with
    | nil => exact fun acc => .refl _
    | cons i l ih =>
      refine fun acc => .trans ?_ (ih _)
      unfold State.reapplySlot
      split
      · exact .refl _
      · split
        · exact .refl _
        · exact .change _ i _ 0
  exact hslots _ (s, 0)

theorem ServedKept.domainRelease (dom : Byte) : ServedKept s (s.domainRelease p dom).state := by
  refine controlOnly_keeps (.refl s) ?_
  split
  · exact .refl s
  · next d _ =>
    unfold State.releaseDomain
    split
    · exact .refl s
    · exact .cancelWarning s d
    · dsimp only [State.releaseHeld]
      exact .trans (.trans (.modDomain s d _) (.setValue _ _ _)) (.reapply _ d)

theorem ServedKept.bindInput (g : Pin) (i : SlotNo) (f : Fin 16) (a : Level) (found : Option Level) :
    ServedKept s (s.bindInput g i f a found) := by
  have hbound : ServedKept s { s.inputBinding g i f a (foundLevel s.samples g found .highZ) with samples := s.samples + 1 } :=
    .trans (.trans (.modPin s g _) (.modRecord _ i (fun r => { r with owner := .pin g }) fun _ => rfl)) (.of_same rfl rfl)
  unfold State.bindInput
  dsimp only
  split
  · exact hbound
  · exact hbound.trans (.setValue _ i _)

theorem ServedKept.bindPin (found : Option Level) (pin : Byte) (h : Handle) (dir active filter : Byte) :
    ServedKept s (s.bindPin p found pin h dir active filter).state := by
  refine controlOnly_keeps (.refl s) (withHandle_keeps (.refl s) fun i r _ => refusedIf_keeps (.refl s) fun _ => ?_)
  split
  · split
    · exact .refl s
    · dsimp only
      split
      · exact .bindInput s _ i _ _ found
      · exact .modPin s _ _
  · exact .refl s

theorem ServedKept.unbindPin (pin : Byte) : ServedKept s (s.unbindPin p pin).state := by
  refine controlOnly_keeps (.refl s) ?_
  split
  · exact .refl s
  · next g _ =>
    split
    · exact .refl s
    · next b _ => exact .unbindFrom s g b

theorem ServedKept.evict (port : Byte) : ServedKept s (s.evict p port).state := by
  refine controlOnly_keeps (.refl s) ?_
  split
  · exact .refl s
  · exact refusedIf_keeps (.refl s) fun _ => refusedIf_keeps (.refl s) fun _ => .of_same rfl rfl

end commands

/-! ## ACQUIRE -/

/-- An ACQUIRE changes nothing, or takes an eligible subscription into service. -/
theorem State.acquire_cases (s : State) (p : Port) :
    (s.acquire p).state = s
      ∨ ∃ i r u, Eligible s p i u ∧ s.slots[i].record = some r
          ∧ (s.acquire p).state = s.takeIntoService p i u (s.services[p].tokenCounter + 1#8) := by
  unfold State.acquire
  split
  · exact .inl rfl
  · next i hi =>
    split
    · exact .inl rfl
    · next r hr =>
      split
      · exact .inl rfl
      · next u hu =>
        split
        · exact .inl rfl
        · obtain ⟨w, hw⟩ := State.selected_eligible hi
          have hwu : some w = some u := hw.subAt.symm.trans ((subAt_of_record hr p).trans hu)
          exact .inr ⟨i, r, u, Option.some.inj hwu ▸ hw, hr, rfl⟩

/-- The new entry's priority number is below those of the entries before it (R62). -/
theorem ServiceListsOrdered.takeIntoService {s : State} (hs : ServiceListsOrdered s) {p : Port} {i : SlotNo} {r : Record}
    {u : Sub} (he : Eligible s p i u) (hr : s.slots[i].record = some r) (token : Byte) :
    ServiceListsOrdered (s.takeIntoService p i u token) := by
  have hu : r.subs[p] = some u := (subAt_of_record hr p).symm.trans he.subAt
  have heq := State.takeIntoService_eq hr hu token
  generalize s.takeIntoService p i u token = t at heq
  have hslots : ∀ q, t.servedSlots q = if q = p then s.servedSlots p ++ [i] else s.servedSlots q := fun q => by
    rw [State.servedSlots, heq]
    dsimp only
    rw [set_get]
    split
    · simp only [Service.serving, List.map_append, List.map_cons, List.map_nil, State.servedSlots]
    · rfl
  have hsub := subAt_of_slotsWith (t := t) (by rw [heq]) hr
  have hpriority : ∀ q j, t.priorityOf q j = s.priorityOf q j := fun q j => by
    rw [State.priorityOf, hsub, State.priorityOf]
    split
    · next hc => rw [hc.1, hc.2, he.subAt]; rfl
    · rfl
  have hat : ∀ q j, t.priorityAt q j = s.priorityAt q j := fun q j => by
    rw [State.priorityAt_eq, State.priorityAt_eq, hpriority]
  refine serviceListsOrdered_iff.mpr fun q => ?_
  simp only [hslots, hpriority, hat]
  obtain ⟨hsome, hdecreasing⟩ := serviceListsOrdered_iff.mp hs q
  split
  · next hq =>
    subst hq
    have hi : s.priorityOf q i = some u.priority := by rw [State.priorityOf, he.subAt, Option.map_some]
    refine ⟨fun j hj => ?_, List.pairwise_append.mpr ⟨hdecreasing, List.pairwise_singleton _ _, fun j hj k hk => ?_⟩⟩
    · rcases List.mem_append.mp hj with hj | hj
      · exact hsome j hj
      · rw [List.mem_singleton.mp hj, hi]
        rfl
    · obtain ⟨e, hmem, rfl⟩ := List.mem_map.mp hj
      obtain ⟨w, hw, hwk⟩ := Option.map_eq_some_iff.mp (Option.some_get (hsome _ hj)).symm
      obtain ⟨-, -, -, habove⟩ := he
      rw [List.mem_singleton.mp hk, State.priorityAt_eq, hi, State.priorityAt, hw]
      exact habove e hmem w hw
  · exact ⟨hsome, hdecreasing⟩

theorem ServiceListsOrdered.acquire {s : State} (hs : ServiceListsOrdered s) (p : Port) :
    ServiceListsOrdered (s.acquire p).state := by
  rcases s.acquire_cases p with h | ⟨i, r, u, he, hr, h⟩
  · rw [h]
    exact hs
  · rw [h]
    exact hs.takeIntoService he hr _

/-! ## The rows -/

theorem ServiceListsOrdered.carryOut {s : State} (hs : ServiceListsOrdered s) (p : Port) (found : Option Level) (c : Command) :
    ServiceListsOrdered (s.carryOut p found c).state := by
  cases c with
  | acquire => exact hs.acquire p
  | declare id kind init dflt dom policy => exact (ServedKept.declareCommand p hs id kind init dflt dom policy).ordered hs
  | subscribe h prio cond m mode cls attrs => exact (ServedKept.subscribe p hs h prio cond m mode cls attrs).ordered hs
  | unsubscribe h => exact (ServedKept.unsubscribe s p h).ordered hs
  | release h => exact (ServedKept.release s p h).ordered hs
  | releaseTop => exact (ServedKept.releaseTop s p).ordered hs
  | threshold t => exact (ServedKept.setThreshold s p t).ordered hs
  | retire h => exact (ServedKept.retireCommand s p h).ordered hs
  | claim h => exact (ServedKept.claim s p h).ordered hs
  | lock h => exact (ServedKept.lock s p h).ordered hs
  | set h v => exact (ServedKept.set s p h v).ordered hs
  | setIf h e v => exact (ServedKept.setIf s p h e v).ordered hs
  | raise h n => exact (ServedKept.raise s p h n).ordered hs
  | domainReset dom mode timeout => exact (ServedKept.domainReset s p dom mode timeout).ordered hs
  | domainRelease dom => exact (ServedKept.domainRelease s p dom).ordered hs
  | bindPin pin h dir active filter => exact (ServedKept.bindPin s p found pin h dir active filter).ordered hs
  | unbindPin pin => exact (ServedKept.unbindPin s p pin).ordered hs
  | evict port => exact (ServedKept.evict s p port).ordered hs
  | read h => exact withHandle_keeps hs fun _ _ _ => hs
  | readGroup l => exact refusedIf_keeps hs fun _ => hs
  | serviceList => exact hs
  | lookup id =>
    show ServiceListsOrdered (s.lookup id).state
    unfold State.lookup
    split
    · exact hs
    · split <;> exact hs
  | pinQuery pin =>
    show ServiceListsOrdered (s.pinQuery pin).state
    unfold State.pinQuery
    split <;> exact hs

/-- With every list empty there is nothing to order. -/
theorem ServiceListsOrdered.of_empty {s : State} (h : ∀ p : Port, s.services[p].list = []) : ServiceListsOrdered s := by
  refine serviceListsOrdered_iff.mpr fun p => ?_
  rw [State.servedSlots, h p]
  exact ⟨fun i hi => absurd hi List.not_mem_nil, .nil⟩

theorem State.serving_slots (s : State) (p : Port) (q : Queued) : (s.serving p q).slots = s.slots := s.taken_slots _

theorem State.serving_services (s : State) (p : Port) (q : Queued) : (s.serving p q).services = s.services :=
  s.taken_services _

theorem RowCase.serviceListsOrdered {s t : State} (h : RowCase s t) (hs : ServiceListsOrdered s) : ServiceListsOrdered t := by
  have hkept : ∀ {u v : State}, v.slots = u.slots → v.services = u.services → ServiceListsOrdered u → ServiceListsOrdered v :=
    fun h1 h2 => (ServedKept.of_same h1 h2).ordered
  cases h with
  | idle h => rw [h]; exact hs
  | cold h => rw [h]; exact .of_empty fun p => by rw [State.cold_service]; rfl
  | released levels hr h => rw [h]; exact .of_empty fun p => by rw [State.released, State.cold_service]; rfl
  | divided h => rw [h]; exact hkept rfl rfl hs
  | ticked board h => rw [h]; exact hkept s.engaged_slots s.engaged_services hs
  | accepted g h => rw [h]; exact hkept rfl rfl hs
  | deadlineRanOut p k h => rw [h]; exact hkept rfl rfl hs
  | warningRanOut d h => rw [h]; exact hkept rfl rfl hs
  | atPort p f h => rw [h]; exact hkept rfl rfl hs
  | request r hc h =>
    rw [h]
    exact hkept rfl rfl ((ServedKept.carryOutRequest _ r).ordered (hkept (s.taken_slots r) (s.taken_services r) hs))
  | command p q found a hc h =>
    rw [h]
    have hserving := hkept (s.serving_slots p q) (s.serving_services p q) hs
    exact hkept (State.sendAnswer_slots _ p a) (State.sendAnswer_services _ p a) (hserving.carryOut p found q.command)

/-- Settles O51: each row keeps what is in service with its priorities, but for an ACQUIRE, whose entry is of a priority number
below the others. -/
theorem stepsKeepServiceListsOrdered : Obligations.StepsKeepServiceListsOrdered := by
  intro s t hs ht
  obtain ⟨rest, hrow⟩ := step_rowCase ht
  exact hrow.serviceListsOrdered hs

end Sys2Proof.Machine
end

section
/-! ACQUIRE and THRESHOLD as they are answered (R62 to R69, R84). -/

namespace Sys2Proof.Machine

open Sys2Proof

/-! ## The end of a command of Chapter 4 -/

theorem State.owe_owes (s : State) (p q : Port) : (s.owe p).owes q ↔ q = p ∨ s.owes q := by
  rw [State.owes, State.owe_ports, set_get]
  by_cases hq : q = p
  · rw [if_pos hq]
    exact iff_of_true rfl (.inl hq)
  · rw [if_neg hq, or_iff_right hq]
    rfl

/-- An indication is owed to p, and to every other port exactly where its pending set differs. -/
theorem owes_with {s m : State} {p : Port} (hp : m.owes p) (hothers : ∀ q, q ≠ p → (m.owes q ↔ PendingSetDiffers s m q))
    (q : Port) : m.owes q ↔ PendingSetDiffers s m q ∨ q ∈ [p] := by
  rw [List.mem_singleton]
  by_cases hq : q = p
  · subst hq
    exact iff_of_true hp (.inr rfl)
  · rw [hothers q hq, or_iff_left hq]

theorem not_pendingSetDiffers {s m : State} {q : Port} (h : ∀ i, m.subAt i q = s.subAt i q) : ¬ PendingSetDiffers s m q := by
  rintro ⟨i, hi⟩
  rw [h i] at hi
  exact hi rfl

theorem PortsStand.refl (s : State) : PortsStand s s := fun _ => rfl

theorem PortsStand.trans {s t u : State} (h : PortsStand s t) (k : PortsStand t u) : PortsStand s u := fun q => by
  rw [k q, h q]

theorem PortsStand.owe (s : State) (p : Port) : PortsStand s (s.owe p) := fun q => by
  rw [State.owe_ports, set_get]
  split
  · next hq => rw [hq]
  · rfl

section takes
variable {s : State} {p : Port} {tag : Byte} {c : Command} {rest : List Queued}

theorem Takes.serving_subAt (h : Takes s p tag c rest) (i : SlotNo) (q : Port) :
    (s.serving p ⟨tag, c⟩).subAt i q = s.subAt i q := subAt_congr (by rw [h.serving_slots]) q

theorem Takes.serving_not_owes (h : Takes s p tag c rest) (q : Port) : ¬ (s.serving p ⟨tag, c⟩).owes q := by
  rw [State.owes, h.serving_indication]
  exact Bool.false_ne_true

end takes

/-! ## THRESHOLD -/

theorem State.setThreshold_eq (s : State) (p : Port) {n : Byte} {v : Fin 9} (h : n.toNat = v.val) :
    s.setThreshold p n
      = { state := (s.modService p fun x => { x with threshold := v }).owe p
          status := .ok
          fields := [byteOf s.services[p].threshold] } := by
  have hlt : n.toNat < 9 := h ▸ v.isLt
  obtain rfl : (⟨n.toNat, hlt⟩ : Fin 9) = v := Fin.ext h
  rw [State.setThreshold, dif_pos hlt]

/-- Settles O39: the check of the value, then the one item it sets and the indication it owes. -/
theorem thresholdOutcomes : Obligations.ThresholdOutcomes := by
  unfold Obligations.ThresholdOutcomes
  intro s p tag n rest ht
  refine ⟨fun hn => ?_, fun v hv => ?_⟩
  · exact ht.bare (f := fun u => u.setThreshold p n) rfl (dif_neg (Nat.not_lt.mpr hn))
  · have hex := State.takeCommand_takes s ht (act := fun | .threshold t => some fun u => u.setThreshold p t | _ => none)
      (f := fun u => u.setThreshold p n) rfl
    rw [State.setThreshold_eq _ p hv, ht.serving_services] at hex
    generalize hm : (s.serving p ⟨tag, .threshold n⟩).modService p (fun x => { x with threshold := v }) = m at hex
    have hports : m.ports = (s.serving p ⟨tag, .threshold n⟩).ports := by rw [← hm, State.modService_ports]
    have hslots : m.slots = s.slots := by rw [← hm, State.modService_slots, ht.serving_slots]
    have hothers : ∀ q, q ≠ p → ((m.owe p).owes q ↔ PendingSetDiffers s (m.owe p) q) := fun q hq => by
      rw [State.owe_owes, or_iff_right hq, State.owes, hports]
      exact iff_of_false (ht.serving_not_owes q)
        (not_pendingSetDiffers fun i => subAt_congr (by rw [State.owe_slots, hslots]) q)
    refine ⟨_, _, congrArg Host.Outcome.next hex, rfl, ?_,
      ht.ends (fun q => by rw [PortsStand.owe m p q, hports]) _
        (owes_with ((State.owe_owes m p p).mpr (.inl rfl)) hothers)⟩
    rw [← hm, ht.serving]
    rfl

/-! ## ACQUIRE -/

theorem Eligible.congr {s t : State} (hslots : t.slots = s.slots) (hserv : t.services = s.services) {p : Port} {i : SlotNo}
    {u : Sub} : Eligible t p i u ↔ Eligible s p i u := by
  simp only [Eligible, State.subAt, hslots, hserv]

theorem SelectedBy.congr {s t : State} (hslots : t.slots = s.slots) (hserv : t.services = s.services) {p : Port} {i : SlotNo}
    {u : Sub} : SelectedBy t p i u ↔ SelectedBy s p i u := by
  simp only [SelectedBy, Eligible, State.subAt, hslots, hserv]

/-- ACQUIRE of the subscription R66 selects. -/
theorem SelectedBy.acquire {s : State} {p : Port} {i : SlotNo} {u : Sub} {k : Mark} {r : Record} (h : SelectedBy s p i u)
    (hk : u.mark = some k) (hr : s.slots[i].record = some r) :
    s.acquire p
      = { state := s.takeIntoService p i u (s.services[p].tokenCounter + 1#8)
          status := .ok
          fields := acquireFields i s.slots[i].gen r u k (s.services[p].tokenCounter + 1#8) } := by
  have ⟨helig, _⟩ := h
  have hu : r.subs[p] = some u := (subAt_of_record hr p).symm.trans helig.subAt
  simp only [State.acquire, h.selected, hr, hu, hk]

/-- Settles O37: the selection of the model is that of R66, and what it takes into service stands as `takeIntoService_eq` says. -/
theorem acquireOutcomes : Obligations.AcquireOutcomes := by
  unfold Obligations.AcquireOutcomes
  intro s p tag rest ht
  have hslots := ht.serving_slots
  have hserv := ht.serving_services
  refine ⟨fun hnone => ?_, fun i u k r hsel hk hr => ?_⟩
  · have hselected : (s.serving p ⟨tag, .acquire⟩).selected p = none :=
      State.selected_none fun i u he => hnone i u ((Eligible.congr hslots hserv).mp he)
    exact ht.bare (f := fun t => t.acquire p) rfl (by simp only [State.acquire, hselected]; rfl)
  · have hex := State.takeCommand_takes s ht (act := fun | .acquire => some fun t => t.acquire p | _ => none)
      (f := fun t => t.acquire p) rfl
    have ⟨helig, _⟩ := hsel
    have hu : r.subs[p] = some u := (subAt_of_record hr p).symm.trans helig.subAt
    have hr' : (s.serving p ⟨tag, .acquire⟩).slots[i].record = some r := by rwa [hslots]
    rw [((SelectedBy.congr hslots hserv).mpr hsel).acquire hk hr', hslots, hserv] at hex
    have heq := State.takeIntoService_eq hr' hu (s.services[p].tokenCounter + 1#8)
    generalize (s.serving p ⟨tag, .acquire⟩).takeIntoService p i u (s.services[p].tokenCounter + 1#8) = m at hex heq
    have hsub := subAt_of_slotsWith (t := m) (by rw [heq]) hr'
    have hports : m.ports = ((s.serving p ⟨tag, .acquire⟩).owe p).ports := by rw [heq, State.owe_ports]
    have howes : ∀ q, m.owes q ↔ q = p := fun q => by
      rw [State.owes, hports, ← State.owes, State.owe_owes, or_iff_left (ht.serving_not_owes q)]
    have hdiffers : ∀ q, q ≠ p → ¬ PendingSetDiffers s m q := fun q hq => not_pendingSetDiffers fun j => by
      rw [hsub, if_neg fun h => hq h.2, ht.serving_subAt]
    refine ⟨_, _, congrArg Host.Outcome.next hex, rfl, ?_, fun q j => ?_,
      ht.ends (fun q => by rw [hports]; exact PortsStand.owe _ p q) _
        (owes_with ((howes p).mpr rfl) fun q hq => iff_of_false (fun h => hq ((howes q).mp h)) (hdiffers q hq))⟩
    · rw [heq, ht.serving]
      rfl
    · rw [heq, State.sendIndications_deadlines, State.sendAnswer_deadlines, State.startDeadline_get, ht.serving]

end Sys2Proof.Machine
end

section
/-! The ending of a service entry by its stages (R72 to R78), and RELEASE and RELEASE_TOP as they are answered. -/

namespace Sys2Proof.Machine

open Sys2Proof

/-! ## Stages, at whatever the ports are -/

section stages
variable (s : State) (i : SlotNo) (p : Port) (ports : Vector PortState 6)

/-- A record given a value in any state (R25 to R28). -/
theorem setValue_valueGiven (v : Byte) : ValueGiven { s with ports := ports } { s.setValue i v with ports := ports } i v := by
  have hfollows := Follows.setValue s i v
  refine ⟨?_, SlotGiven.setValue s i v, fun j hj => hfollows.acts.slot j fun e => hj (List.mem_singleton.mpr e), hfollows.pins⟩
  have hrest := setValue_rest s i v
  generalize s.setValue i v = m at hrest
  rw [hrest]

theorem Record.noSubs_without (r : Record) :
    ({ r with subs := r.subs.set p none } : Record).noSubs = true ↔ ∀ q : Port, q ≠ p → r.subs[q] = none := by
  rw [Record.noSubs_iff]
  refine forall_congr' fun q => ?_
  dsimp only
  rw [set_get]
  by_cases hq : q = p <;> simp [hq]

/-- Stage 4 of a release in any state (R75, R76). -/
theorem releaseSub_settles : Settles { s with ports := ports } { s.releaseSub i p with ports := ports } i p := by
  unfold Settles State.releaseSub
  cases hr : s.slots[i].record with
  | none =>
    have hlive : s.isDraining i = false := by simp only [State.isDraining, hr]
    rw [hlive, if_neg Bool.false_ne_true, State.heldEvaluation, State.updSub_free s i p _ hr]
  | some r =>
    have hval : s.valueAt i = r.value := by rw [State.valueAt, hr]
    cases hst : r.state with
    | live =>
      rw [isDraining_of_live hr hst, if_neg Bool.false_ne_true, State.heldEvaluation, State.updSub_spec s i p _ r hr, hval]
      simp only [hst, Sub.evaluated_eq]
    | draining =>
      have hrec : (s.updSub i p fun _ => none).slots[i].record = some { r with subs := r.subs.set p none } := by
        rw [State.updSub_record, if_pos rfl, hr, Option.map_some]
      have hlast : (s.updSub i p fun _ => none).noSubsAt i = true ↔ ∀ q : Port, q ≠ p → r.subs[q] = none := by
        rw [State.noSubsAt, hrec]
        exact r.noSubs_without p
      rw [(isDraining_iff s i).mpr ⟨r, hr, hst⟩, if_pos rfl, State.removeDraining_eq]
      by_cases hl : ∀ q : Port, q ≠ p → r.subs[q] = none
      · simp only [hst, hlast, if_pos hl]
        rw [State.freeSlot_spec _ i _ hrec, State.updSub_spec s i p _ r hr]
        simp only [set_get, if_true, Vector.set_set]
      · simp only [hst, hlast, if_neg hl]
        rw [State.updSub_spec s i p _ r hr, hst]

end stages

/-! ## The indications of a happening, port by port -/

/-- From s to t an indication has come to be owed to q exactly where q's pending set differs (R58). -/
def OwedAt (q : Port) (s t : State) : Prop := t.owes q ↔ s.owes q ∨ PendingSetDiffers s t q

/-- Two runs in turn, where at each slot at most one of them touches q's mark. -/
theorem OwedAt.trans {q : Port} {s t u : State} (h : OwedAt q s t) (k : OwedAt q t u)
    (hd : ∀ i, isPending (t.subAt i q) = isPending (s.subAt i q) ∨ isPending (u.subAt i q) = isPending (t.subAt i q)) :
    OwedAt q s u := by
  have hboth : PendingSetDiffers s u q ↔ PendingSetDiffers s t q ∨ PendingSetDiffers t u q := by
    unfold PendingSetDiffers
    rw [← exists_or]
    refine exists_congr fun i => ?_
    rcases hd i with e | e
    · rw [e, ne_self_iff_false, false_or]
    · rw [e, ne_self_iff_false, or_false]
  unfold OwedAt at *
  rw [k, h, hboth, or_assoc]

/-- Nothing of q's subscriptions and of q's port differs. -/
theorem OwedAt.of_stands {q : Port} {s t : State} (hsub : ∀ i, t.subAt i q = s.subAt i q)
    (hport : t.ports[q] = s.ports[q]) : OwedAt q s t := by
  rw [OwedAt, or_iff_left (not_pendingSetDiffers hsub), State.owes, hport, State.owes]

/-! ## The stages at another port, and the ports -/

section other
variable (s : State) (p q : Port) (i : SlotNo)

theorem releaseSub_acts : ActsOn (· = i) s (s.releaseSub i p) := by
  unfold State.releaseSub
  split
  · exact .removeDraining s i p
  · exact .updSub s i p _

/-- Stage 4 of a release by p leaves the other ports' subscriptions (R75, R76). -/
theorem releaseSub_subAt_other {q : Port} (hq : q ≠ p) (j : SlotNo) : (s.releaseSub i p).subAt j q = s.subAt j q := by
  have hupd : ∀ f, (s.updSub i p f).subAt j q = s.subAt j q := fun f => by
    rw [State.updSub_subAt, if_neg fun c => hq c.2.2]
  unfold State.releaseSub
  split
  · rw [State.removeDraining_eq]
    split
    · next hn =>
      by_cases hj : j = i
      · subst hj
        rw [← hupd fun _ => none, State.noSubsAt_subAt hn, State.subAt, State.freeSlot_record, if_pos rfl]
      · rw [← hupd fun _ => none]
        exact subAt_congr (by rw [State.freeSlot_record, if_neg hj]) q
    · exact hupd _
  · exact hupd _

/-- A departure touches DOMAIN records and user records alone (R100 to R103). -/
theorem departOn_acts : ActsOn (fun j => 12 ≤ j.val) s (s.departOn i p) := by
  have hleft : ∀ (d : Dom) (P : SlotNo → Prop), ActsOn P s (s.modDomain d fun x => { x with awaited := x.awaited.set p false }) :=
    fun _ _ => .of_same rfl rfl rfl rfl
  unfold State.departOn
  split
  · exact .refl _ s
  · next d _ =>
    rw [depart_eq]
    split
    · refine ((hleft d fun _ => False).trans (Follows.endWarning _ d).acts fun _ h => h.elim).mono fun j hj => ?_
      rcases hj with hj | hj | hj
      · exact hj.elim
      · omega
      · rw [hj, domainSlot_val]
        omega
    · split
      · exact hleft d _
      · exact .refl _ s

theorem acknowledge_acts (guard : Bool) : ActsOn (fun j => 12 ≤ j.val) s (s.acknowledge i p guard) := by
  unfold State.acknowledge
  split
  · exact departOn_acts s p i
  · exact .refl _ s

theorem overdueBack_acts (e : Entry) : ActsOn (· = overdueSlot p) s (s.overdueBack p e) := by
  unfold State.overdueBack
  split
  · exact .setValue s _ _
  · exact .refl _ s

theorem entryGone_acts : ActsOn (fun _ => False) s ((s.cancelFor p i).removeEntry p i) := by
  rw [State.cancelFor_frame]
  exact .of_same rfl rfl rfl rfl

end other

section endEntry
variable (s : State) (p : Port) (e : Entry)

theorem endEntry_portsStand : PortsStand s (s.endEntry p e) :=
  ((((entryGone_acts s p e.slot).ports.trans (overdueBack_acts _ p e).ports).trans (releaseSub_acts _ p e.slot).ports).trans
    (acknowledge_acts _ p e.slot _).ports).trans (.owe _ p)

/-- At another port than p, only the change of p's OVERDUE record and a departure touch marks, on separate slots. -/
theorem endEntry_owedAt {q : Port} (hq : q ≠ p) : OwedAt q s (s.endEntry p e) := by
  have hgone := entryGone_acts s p e.slot
  have hback := overdueBack_acts ((s.cancelFor p e.slot).removeEntry p e.slot) p e
  unfold State.endEntry
  dsimp only
  generalize (s.cancelFor p e.slot).removeEntry p e.slot = s1 at *
  generalize s1.overdueBack p e = s2 at *
  have hrelease := releaseSub_acts s2 p e.slot
  have hsame := releaseSub_subAt_other s2 p e.slot hq
  generalize s2.releaseSub e.slot p = s3 at *
  have hdepart := acknowledge_acts s3 p e.slot (s.guardAt e.slot p)
  generalize s3.acknowledge e.slot p (s.guardAt e.slot p) = s4 at *
  have hfirst : OwedAt q s s2 := OwedAt.trans (hgone.owes q) (hback.owes q) fun i => .inl (by rw [hgone.subAt not_false])
  have hsettled : OwedAt q s s3 := hfirst.trans (hrelease.owes q) fun i => .inr (by rw [hsame])
  have hdeparted : OwedAt q s s4 := hsettled.trans (hdepart.owes q) fun i => by
    by_cases hi : i = overdueSlot p
    · have hlow : ¬ 12 ≤ i.val := by
        rw [hi]
        show ¬ 12 ≤ 6 + p.val
        omega
      exact .inr (by rw [hdepart.subAt hlow])
    · exact .inl (by rw [hsame, hback.subAt hi, hgone.subAt not_false])
  refine hdeparted.trans (.of_stands (fun i => rfl) ?_) fun i => .inr rfl
  rw [State.owe_ports, set_get, if_neg hq]

end endEntry

end Sys2Proof.Machine
end

section
/-! RELEASE and RELEASE_TOP as they are answered (R71 to R74). -/

namespace Sys2Proof.Machine

open Sys2Proof

section takes
variable {s : State} {p : Port} {tag : Byte} {c : Command} {rest : List Queued} {e : Entry} {r : Record} {u : Sub}

/-- What stage 1 and 2 of R72 leave: p's list without the entry, and the deadline timers. -/
theorem entryGone_eq (s : State) (p : Port) (i : SlotNo) :
    (s.cancelFor p i).removeEntry p i
      = { s with
          services := s.services.set p { s.services[p] with list := s.services[p].list.filter fun x => x.slot ≠ i }
          deadlines := (s.cancelFor p i).deadlines } := by
  rw [State.cancelFor_frame]
  rfl

/-- The deadline timer of the entry is cancelled where its class is not 0 (R86). -/
theorem Takes.cancelFor_timer (ht : Takes s p tag c rest) {i : SlotNo} (hu : s.subAt i p = some u) :
    if u.cls = 0 then ((s.serving p ⟨tag, c⟩).cancelFor p i).deadlines = s.deadlines
    else TimerCancelled s ((s.serving p ⟨tag, c⟩).cancelFor p i) p u.priority := by
  have hget : ∀ (q : Port) (k : Prio), ((s.serving p ⟨tag, c⟩).cancelFor p i).deadlines[q][k]
      = if q = p ∧ u.cls ≠ 0 ∧ u.priority = k then { s.deadlines[q][k] with timer := none } else s.deadlines[q][k] := by
    intro q k
    have hsame : (s.serving p ⟨tag, c⟩).deadlines = s.deadlines := by rw [ht.serving]
    rw [State.cancelFor_get, ht.serving_subAt, hu, Option.any_some, hsame]
    refine DeadlineUnit.stoppedIf_eq ?_ _
    rw [Bool.and_eq_true, decide_eq_true_eq, timedAt, decide_eq_true_eq]
  split
  · next h0 =>
    refine vector_ext fun q => vector_ext fun k => ?_
    rw [hget, if_neg fun h => h.2.1 h0]
  · next h0 =>
    intro q k
    rw [hget]
    exact if_congr (and_congr_right fun _ => (and_iff_right h0).trans eq_comm) rfl rfl

/-- The ending of an entry goes by the stages of R72, at whatever the ports are. -/
theorem Takes.entryEnds (ht : Takes s p tag c rest) (hu : s.subAt e.slot p = some u) (a : Answer) :
    EntryEnds s (((s.serving p ⟨tag, c⟩).endEntry p e).sendAnswer p a).sendIndications p rest a e u := by
  have hguard : (s.serving p ⟨tag, c⟩).guardAt e.slot p = u.guard := by rw [State.guardAt, ht.serving_subAt, hu]
  have hp : ((s.serving p ⟨tag, c⟩).endEntry p e).owes p := (State.owe_owes _ p p).mpr (.inl rfl)
  have hothers : ∀ q, q ≠ p →
      (((s.serving p ⟨tag, c⟩).endEntry p e).owes q ↔ PendingSetDiffers s ((s.serving p ⟨tag, c⟩).endEntry p e) q) := by
    intro q hq
    have howed := endEntry_owedAt (s.serving p ⟨tag, c⟩) p e hq
    unfold OwedAt PendingSetDiffers at howed
    simp only [ht.serving_subAt] at howed
    exact howed.trans (or_iff_right (ht.serving_not_owes q))
  obtain ⟨hstand, hexact⟩ := ht.ends (endEntry_portsStand (s.serving p ⟨tag, c⟩) p e) a (owes_with hp hothers)
  have htimer := ht.cancelFor_timer hu
  have hgone := entryGone_eq (s.serving p ⟨tag, c⟩) p e.slot
  unfold State.endEntry at hstand hexact ⊢
  rw [hguard] at hstand hexact ⊢
  generalize ((s.serving p ⟨tag, c⟩).cancelFor p e.slot).removeEntry p e.slot = s1 at *
  have hvalue : s1.valueAt (overdueSlot p) = s.valueAt (overdueSlot p) := by
    rw [hgone, State.valueAt, State.valueAt]
    simp only [ht.serving_slots]
  refine ⟨{ s1 with ports := (s.answered p rest a).ports }, { s1.overdueBack p e with ports := (s.answered p rest a).ports },
    { (s1.overdueBack p e).releaseSub e.slot p with ports := (s.answered p rest a).ports },
    { ((s1.overdueBack p e).releaseSub e.slot p).acknowledge e.slot p u.guard with ports := (s.answered p rest a).ports },
    ?_, ?_, ?_, releaseSub_settles _ e.slot p _, ?_, rfl, hstand, hexact⟩
  · rw [hgone, ht.serving]
    rfl
  · rw [hgone]
    exact htimer
  · split
    · next hover =>
      rw [State.overdueBack, if_pos hover, hvalue]
      exact setValue_valueGiven s1 _ _ _
    · next hover => rw [State.overdueBack, if_neg hover]
  · split
    · next hg =>
      rw [State.acknowledge, if_pos hg]
      exact departOn_guardGone _ _ _ _
    · next hg => rw [State.acknowledge, if_neg hg]

end takes

/-! ## The answer -/

/-- The three flags of a release stand on bits of their own, so their sum is their disjunction. -/
theorem releaseFlags_eq (overdue pending removed : Bool) :
    (if overdue then 1#8 else 0#8) ||| (if pending then 2#8 else 0#8) ||| (if removed then 4#8 else 0#8)
      = (if overdue then 1#8 else 0#8) + (if pending then 2#8 else 0#8) + (if removed then 4#8 else 0#8) := by
  revert overdue pending removed
  decide

section answer
variable {s t : State} {p : Port} {e : Entry} {r : Record}

theorem releaseFields_eq (hr : s.slots[e.slot].record = some r) :
    releaseFields e.slot s.slots[e.slot].gen e (isPending (t.subAt e.slot p)) (s.isDraining e.slot)
      = releaseBytes s t p r e := by
  have hdraining : s.isDraining e.slot = true ↔ r.state = .draining := by
    rw [isDraining_iff, hr]
    exact ⟨fun ⟨_, h, hd⟩ => Option.some.inj h ▸ hd, fun hd => ⟨r, rfl, hd⟩⟩
  rw [releaseFields, releaseFlags_eq, releaseBytes]
  simp only [hdraining]
  rfl

/-- What is sent at the end touches no subscription. -/
theorem releaseBytes_sent (m : State) (a : Answer) :
    releaseBytes s (m.sendAnswer p a).sendIndications p r e = releaseBytes s m p r e := by
  have hsub : (m.sendAnswer p a).sendIndications.subAt e.slot p = m.subAt e.slot p :=
    subAt_congr (by rw [State.sendIndications_slots, State.sendAnswer_slots]) p
  rw [releaseBytes, releaseBytes, hsub]

end answer

section release
variable {s : State} {p : Port} {tag : Byte} {c : Command} {rest : List Queued} {e : Entry} {r : Record} {u : Sub}

/-- A command whose part is the ending of the entry e of p. -/
theorem Takes.releases {act : Command → Option (State → Done)} {f : State → Done} (ht : Takes s p tag c rest)
    (ha : act c = some f) (hf : f (s.serving p ⟨tag, c⟩) = (s.serving p ⟨tag, c⟩).releaseEntry p e)
    (hr : s.slots[e.slot].record = some r) (hu : r.subs[p] = some u) :
    ∃ t, (.next (s.takeCommand p act) : Host.Outcome State Fault Refusal) = .next t
      ∧ EntryEnds s t p rest { tag := tag, code := c.opcode, status := .ok, fields := releaseBytes s t p r e } e u := by
  have hsub : s.subAt e.slot p = some u := (subAt_of_record hr p).trans hu
  have hrecord : (s.serving p ⟨tag, c⟩).slots[e.slot].record = some r := by rwa [ht.serving_slots]
  have hfields : ∀ t, releaseBytes (s.serving p ⟨tag, c⟩) t p r e = releaseBytes s t p r e := fun t => by
    rw [releaseBytes, ht.serving_slots, releaseBytes]
  have hex := State.takeCommand_takes s ht ha
  rw [hf, State.releaseEntry] at hex
  dsimp only at hex
  rw [releaseFields_eq hrecord, hfields] at hex
  refine ⟨_, congrArg Host.Outcome.next hex, ?_⟩
  rw [releaseBytes_sent]
  exact ht.entryEnds hsub _

/-- On no slot but one of its entries is a port in service. -/
theorem entryOn_none {i : SlotNo} (h : s.inService p i = false) : s.entryOn p i = none := by
  rw [State.entryOn, List.find?_eq_none]
  exact List.any_eq_false.mp h

/-- The entry on a slot is the one that stands there. -/
theorem entryOn_mem (hl : ServiceListsOrdered s) (he : e ∈ s.services[p].list) : s.entryOn p e.slot = some e := by
  rw [State.entryOn]
  cases hfind : s.services[p].list.find? fun x => x.slot = e.slot with
  | none => exact absurd (decide_eq_true rfl) (List.find?_eq_none.mp hfind e he)
  | some x =>
    have hslot : x.slot = e.slot := by simpa using List.find?_some hfind
    by_contra hne
    exact (hl.slotsApart p).apart (List.mem_of_find?_eq_some hfind) he (fun h => hne (congrArg some h)) hslot

theorem Takes.serving_entryOn (ht : Takes s p tag c rest) (i : SlotNo) :
    (s.serving p ⟨tag, c⟩).entryOn p i = s.entryOn p i := by
  rw [State.entryOn, ht.serving_services, State.entryOn]

end release

section named
variable {s : State} {p : Port} {h : Handle} {i : SlotNo} {r : Record}

/-- RELEASE of a record without an entry of p, in whichever state the record is (R71). -/
theorem State.release_none (hn : Names s h i r) (he : s.entryOn p i = none) : s.release p h = refuse s .notInService := by
  simp only [State.release, State.withHandle, State.checkHandle_names s hn (.inr rfl), he]

/-- RELEASE of a record with an entry of p, in whichever state the record is (R71). -/
theorem State.release_some {e : Entry} (hn : Names s h i r) (he : s.entryOn p i = some e) :
    s.release p h = s.releaseEntry p e := by
  simp only [State.release, State.withHandle, State.checkHandle_names s hn (.inr rfl), he]

end named

/-- Settles O38: RELEASE and RELEASE_TOP both come to one ending of an entry, which `Takes.entryEnds` takes through the stages
of R72. -/
theorem releasesEndTheEntry : Obligations.ReleasesEndTheEntry := by
  unfold Obligations.ReleasesEndTheEntry
  intro s p tag rest hl _
  refine ⟨fun h i r ht hn => ⟨fun hno => ?_, fun e he hei u hu => ?_⟩,
    fun ht => ⟨fun hempty => ?_, fun older e r u hlist hr hu => ?_⟩⟩
  · exact ht.bare (f := fun t => t.release p h) rfl
      (State.release_none (ht.names hn) (by rw [ht.serving_entryOn, entryOn_none hno]))
  · subst hei
    have ⟨_, _, hr⟩ := hn
    exact ht.releases (f := fun t => t.release p h) rfl
      (State.release_some (ht.names hn) (by rw [ht.serving_entryOn, entryOn_mem hl he])) hr hu
  · exact ht.bare (f := fun t => t.releaseTop p) rfl
      (by rw [State.releaseTop, ht.serving_services, hempty]; rfl)
  · exact ht.releases (f := fun t => t.releaseTop p) rfl
      (by rw [State.releaseTop, ht.serving_services, hlist, List.getLast?_concat]) hr hu

end Sys2Proof.Machine
end

section
/-! The count of the OVERDUE entries (R87 to R89), and the waiting steps: `TallyStands Q` says that a stage leaves the queue of
the waiting steps, and of every port but those Q names the value of its OVERDUE record and the number of OVERDUE entries in its
service list. With Q for nobody this is what most stages do; with Q for everybody it speaks of the waiting steps alone. -/

namespace Sys2Proof.Machine

open Sys2Proof

/-! ## The tally -/

/-- How many entries of q's service list are OVERDUE. -/
def State.overdueCount (s : State) (q : Port) : Nat := s.services[q].list.countP (·.overdue)

/-- Slot i holds the OVERDUE record of no port but those that Q names. -/
def OutsideTally (Q : Port → Prop) (i : SlotNo) : Prop := ∀ q, ¬ Q q → i ≠ overdueSlot q

theorem overdueSlot_val (q : Port) : (overdueSlot q).val = 6 + q.val := rfl

theorem overdueSlot_inj {p q : Port} (h : overdueSlot p = overdueSlot q) : p = q := by
  have := congrArg Fin.val h
  simp only [overdueSlot_val] at this
  exact Fin.ext (by omega)

theorem OutsideTally.of_all {Q : Port → Prop} (h : ∀ q, Q q) (i : SlotNo) : OutsideTally Q i := fun q hq => absurd (h q) hq

/-- The DOMAIN records and the user slots. -/
theorem OutsideTally.of_ge {Q : Port → Prop} {i : SlotNo} (h : 12 ≤ i.val) : OutsideTally Q i := by
  rintro q - rfl
  rw [overdueSlot_val] at h
  omega

theorem OutsideTally.user {Q : Port → Prop} {i : SlotNo} (h : 20 ≤ i.val) : OutsideTally Q i := .of_ge (by omega)

theorem OutsideTally.domain (Q : Port → Prop) (d : Dom) : OutsideTally Q (domainSlot d) := .of_ge (by rw [domainSlot_val]; omega)

theorem OutsideTally.link (Q : Port → Prop) (p : Port) : OutsideTally Q (linkSlot p) := by
  intro q _ h
  have : p.val = 6 + q.val := congrArg Fin.val h
  omega

theorem OutsideTally.overdue {Q : Port → Prop} {p : Port} (h : Q p) : OutsideTally Q (overdueSlot p) :=
  fun _ hq he => hq (overdueSlot_inj he ▸ h)

/-- From s to t the waiting steps stand, and so do the OVERDUE record and the number of OVERDUE entries of every port but those
that Q names. -/
structure TallyStands (Q : Port → Prop) (s t : State) : Prop where
  pending : t.pending = s.pending
  value : ∀ q, ¬ Q q → t.valueAt (overdueSlot q) = s.valueAt (overdueSlot q)
  count : ∀ q, ¬ Q q → t.overdueCount q = s.overdueCount q

variable {Q : Port → Prop}

theorem TallyStands.refl (s : State) : TallyStands Q s s := ⟨rfl, fun _ _ => rfl, fun _ _ => rfl⟩

theorem TallyStands.trans {s t u : State} (h : TallyStands Q s t) (k : TallyStands Q t u) : TallyStands Q s u :=
  ⟨k.pending.trans h.pending, fun q hq => (k.value q hq).trans (h.value q hq),
    fun q hq => (k.count q hq).trans (h.count q hq)⟩

/-- A fold of operations that leave the tally, under what each of them keeps. -/
theorem TallyStands.foldl_good {α : Type} {op : State → α → State} {Good : State → Prop} (l : List α)
    (h : ∀ s, Good s → ∀ a ∈ l, TallyStands Q s (op s a) ∧ Good (op s a)) (s : State) (hs : Good s) :
    TallyStands Q s (l.foldl op s) := by
  induction l generalizing s with
  | nil => exact .refl s
  | cons a l ih =>
    obtain ⟨hstands, hgood⟩ := h s hs a List.mem_cons_self
    exact hstands.trans (ih (fun t ht b hb => h t ht b (List.mem_cons_of_mem _ hb)) _ hgood)

theorem TallyStands.foldl {α : Type} {op : State → α → State} (l : List α)
    (h : ∀ s, ∀ a ∈ l, TallyStands Q s (op s a)) (s : State) : TallyStands Q s (l.foldl op s) :=
  .foldl_good (Good := fun _ => True) l (fun t _ a ha => ⟨h t a ha, trivial⟩) s trivial

theorem overdueCount_congr {s t : State} (h : t.services = s.services) (q : Port) : t.overdueCount q = s.overdueCount q := by
  rw [State.overdueCount, h, State.overdueCount]

/-- The service lists stand, and so does every value but those of slots outside the tally. -/
theorem TallyStands.of_values {s t : State} (hpending : t.pending = s.pending) (hserv : t.services = s.services)
    (hvalue : ∀ i, ¬ OutsideTally Q i → t.valueAt i = s.valueAt i) : TallyStands Q s t :=
  ⟨hpending, fun q hq => hvalue _ fun hout => hout q hq rfl, fun q _ => overdueCount_congr hserv q⟩

theorem TallyStands.of_same {s t : State} (hpending : t.pending = s.pending) (hserv : t.services = s.services)
    (hslots : t.slots = s.slots) : TallyStands Q s t :=
  .of_values hpending hserv fun _ _ => valueAt_congr (by rw [hslots])

/-- What touches slots outside the tally alone, and no service list. -/
theorem TallyStands.of_acts {P : SlotNo → Prop} {s t : State} (h : ActsOn P s t) (hserv : t.services = s.services)
    (hP : ∀ i, P i → OutsideTally Q i) : TallyStands Q s t :=
  .of_values (by rw [h.rest]) hserv fun i hi => valueAt_congr (by rw [h.slot i fun hPi => hi (hP i hPi)])

/-- The system records stand; nothing is asked of them where Q names every port. -/
def TallyGuarded (Q : Port → Prop) (s : State) : Prop := (∀ q, Q q) ∨ SystemsHold s

theorem TallyGuarded.moves {s t : State} (h : TallyGuarded Q s) (m : Moves s t) : TallyGuarded Q t :=
  h.imp_right (m.keep fun _ _ => Move.systemsHold)

/-- No system record is DRAINING (R8). -/
theorem TallyGuarded.draining {s : State} (h : TallyGuarded Q s) {i : SlotNo} (hd : s.isDraining i = true) :
    OutsideTally Q i := by
  rcases h with hall | hsys
  · exact .of_all hall i
  · obtain ⟨r, hr, hrd⟩ := (isDraining_iff s i).mp hd
    refine .user (Nat.le_of_not_lt fun hlt => ?_)
    obtain ⟨r', hr', hlive, -⟩ := hsys.record hlt
    rw [hr, Option.some.injEq] at hr'
    rw [hr', hlive] at hrd
    cases hrd

/-- No pin is bound to a system record (R8). -/
theorem TallyGuarded.bound {s : State} (h : TallyGuarded Q s) {g : Pin} {b : Binding} (hb : s.pins[g].binding = some b) :
    OutsideTally Q b.slot :=
  h.elim (fun hall => .of_all hall _) fun hsys => .user (hsys.2.1 g b hb)

theorem TallyGuarded.applied {s : State} (h : TallyGuarded Q s) {g : Pin} {i : SlotNo} {v : Byte}
    (ha : s.pins[g].applied = some (i, v)) : OutsideTally Q i := by
  obtain ⟨b, -, -, hb, -, -, hslot, -⟩ := PinState.applied_some ha
  exact hslot ▸ h.bound hb

/-! ## Operations on one part of the state -/

theorem TallyStands.modPort (s : State) (p : Port) (f : PortState → PortState) : TallyStands Q s (s.modPort p f) :=
  .of_same rfl rfl rfl

theorem TallyStands.owe (s : State) (p : Port) : TallyStands Q s (s.owe p) := .of_same rfl rfl rfl

theorem TallyStands.modPin (s : State) (g : Pin) (f : PinState → PinState) : TallyStands Q s (s.modPin g f) :=
  .of_same rfl rfl rfl

theorem TallyStands.modDomain (s : State) (d : Dom) (f : DomainEntry → DomainEntry) : TallyStands Q s (s.modDomain d f) :=
  .of_same rfl rfl rfl

theorem TallyStands.cancelWarningTimer (s : State) (d : Dom) : TallyStands Q s (s.cancelWarningTimer d) :=
  .of_same rfl rfl rfl

theorem TallyStands.cancelFor (s : State) (p : Port) (i : SlotNo) : TallyStands Q s (s.cancelFor p i) := by
  rw [State.cancelFor_frame]
  exact .of_same rfl rfl rfl

/-- The list of p is altered, where Q names p or the number of OVERDUE entries stands. -/
theorem TallyStands.modService {s : State} {p : Port} {f : Service → Service}
    (hf : ¬ Q p → (f s.services[p]).list.countP (·.overdue) = s.overdueCount p) : TallyStands Q s (s.modService p f) := by
  refine ⟨rfl, fun _ _ => rfl, fun q hq => ?_⟩
  rw [State.overdueCount, State.modService_get]
  split
  · next hqp => rw [hf (hqp ▸ hq), hqp]
  · rfl

theorem TallyStands.modRecord (s : State) (i : SlotNo) (f : Record → Record) (hf : ∀ r, (f r).value = r.value) :
    TallyStands Q s (s.modRecord i f) := by
  refine .of_values rfl rfl fun j _ => ?_
  by_cases hj : j = i
  · subst hj
    simp only [State.valueAt, State.modRecord_record, if_true]
    cases s.slots[j].record with
    | none => rfl
    | some r => exact hf r
  · exact valueAt_congr (by rw [State.modRecord_record, if_neg hj])

/-! ## Operations on records -/

theorem TallyStands.change {s : State} {i : SlotNo} (h : OutsideTally Q i) (v : Byte) (n : Nat) :
    TallyStands Q s (s.change i v n) :=
  .of_acts (.change s i v n) (s.change_services i v n) fun _ hj => hj ▸ h

theorem TallyStands.setValue {s : State} {i : SlotNo} (h : OutsideTally Q i) (v : Byte) : TallyStands Q s (s.setValue i v) :=
  .of_acts (.setValue s i v) (s.setValue_services i v) fun _ hj => hj ▸ h

theorem TallyStands.updSub (s : State) (i : SlotNo) (p : Port) (f : Option Sub → Option Sub) :
    TallyStands Q s (s.updSub i p f) :=
  .of_values (by rw [State.updSub_frame]) (s.updSub_services i p f) fun j _ => s.updSub_valueAt i j p f

theorem TallyStands.heldEvaluation (s : State) (i : SlotNo) (p : Port) : TallyStands Q s (s.heldEvaluation i p) :=
  .updSub s i p _

theorem TallyStands.removeDraining {s : State} {i : SlotNo} (h : OutsideTally Q i) (p : Port) :
    TallyStands Q s (s.removeDraining i p) :=
  .of_acts (.removeDraining s i p) (s.removeDraining_services i p) fun _ hj => hj ▸ h

theorem TallyStands.retireRecord {s : State} {i : SlotNo} {r : Record} (h : OutsideTally Q i)
    (hr : s.slots[i].record = some r) : TallyStands Q s (s.retireRecord i) :=
  .of_values (by rw [State.retireRecord_frame s i r hr]) (s.retireRecord_services i r hr) fun j hj =>
    valueAt_congr (by rw [s.retireRecord_other hr (j := j) fun hji => hj (hji ▸ h)])

theorem TallyStands.unbindFrom (s : State) (g : Pin) (b : Binding) : TallyStands Q s (s.unbindFrom g b) := by
  unfold State.unbindFrom
  split
  · exact .trans (.modPin s g _) (.modRecord _ b.slot _ fun _ => rfl)
  · exact .modPin s g _

/-! ## Operations of several stages -/

theorem TallyStands.sweep (s : State) (d : Dom) : TallyStands Q s (s.sweep d).1 :=
  .of_acts (Follows.sweep s d).acts (sweep_services s d) fun _ => .user

/-- A domain's state is altered together with its DOMAIN record. -/
theorem TallyStands.domain (s : State) (d : Dom) (f : DomainEntry → DomainEntry) (v : Byte) :
    TallyStands Q s ((s.modDomain d f).setValue (domainSlot d) v) :=
  .trans (.modDomain s d f) (.setValue (.domain Q d) v)

theorem TallyStands.endWarning (s : State) (d : Dom) : TallyStands Q s (s.endWarning d).1 :=
  .of_acts (Follows.endWarning s d).acts (by rw [endWarning_rest]) fun _ hi => hi.elim .user fun h => h ▸ .domain Q d

theorem TallyStands.depart (s : State) (d : Dom) (p : Port) : TallyStands Q s (s.depart d p) := by
  rw [depart_eq]
  split
  · exact .trans (.modDomain s d _) (.endWarning _ d)
  · split
    · exact .modDomain s d _
    · exact .refl s

theorem TallyStands.departOn (s : State) (i : SlotNo) (p : Port) : TallyStands Q s (s.departOn i p) := by
  unfold State.departOn
  split
  · exact .refl s
  · exact .depart s _ p

/-- The entry of a port that Q names leaves its list, with its timer. -/
theorem TallyStands.entryGone {p : Port} (hp : Q p) (s : State) (i : SlotNo) :
    TallyStands Q s ((s.cancelFor p i).removeEntry p i) :=
  .trans (.cancelFor s p i) (.modService fun hn => absurd hp hn)

/-! ## Internal requests -/

section requests
variable {s : State} {p : Port}

theorem entryGone_isDraining (s : State) (p : Port) (i j : SlotNo) :
    ((s.cancelFor p i).removeEntry p i).isDraining j = s.isDraining j := by
  rw [entryGone_eq]
  rfl

theorem TallyStands.dropEntry (hp : Q p) (hs : TallyGuarded Q s) (e : Entry) : TallyStands Q s (State.dropEntry p s e) := by
  have hgone := TallyStands.entryGone hp s e.slot
  unfold State.dropEntry
  dsimp only
  split
  · next hd =>
    rw [entryGone_isDraining] at hd
    exact hgone.trans (.removeDraining (hs.draining hd) p)
  · exact hgone

theorem TallyStands.dropService (hp : Q p) (hs : TallyGuarded Q s) : TallyStands Q s (s.dropService p) :=
  .foldl_good s.services[p].list (fun t ht e _ => ⟨.dropEntry hp ht e, ht.moves (.dropEntry p t e)⟩) s hs

theorem TallyStands.settleSubs (s : State) (p : Port) : TallyStands Q s (s.settleSubs p) := by
  refine .foldl (List.finRange 128) (fun t i _ => ?_) s
  rcases settleSub_cases p t i with h | ⟨f, h⟩
  · rw [h]
    exact .refl t
  · rw [h]
    exact .updSub t i p f

theorem TallyStands.resetAttention (s : State) (p : Port) : TallyStands Q s (s.resetAttention p) := .modService fun _ => rfl

theorem TallyStands.leaveAwaited (s : State) (p : Port) : TallyStands Q s (s.leaveAwaited p) := by
  unfold State.leaveAwaited
  exact .foldl (List.finRange 8) (fun t d _ => .depart t d p) s

theorem TallyStands.orphanRecords (s : State) (p : Port) : TallyStands Q s (s.orphanRecords p) := by
  refine .foldl userSlots (fun t i hi => ?_) s
  have hout : OutsideTally Q i := .user (mem_userSlots.mp hi)
  rcases orphanSlot_cases p t i with h | ⟨r, hr, h | h⟩
  · rw [h]
    exact .refl t
  · rw [h]
    exact .retireRecord hout hr
  · rw [h]
    exact .trans (.modRecord t i Record.disowned fun _ => rfl) (.setValue hout _)

/-- A teardown of p is p's own affair (R151). -/
theorem TallyStands.teardown (hp : Q p) (hs : TallyGuarded Q s) : TallyStands Q s (s.teardown p) := by
  have hattended : TallyStands Q s (s.attended p) := by
    unfold State.attended
    exact ((TallyStands.dropService hp hs).trans (.settleSubs _ p)).trans (.resetAttention _ p)
  have horphaned : TallyStands Q s (s.orphaned p) := by
    unfold State.orphaned State.departed
    exact (hattended.trans (.leaveAwaited _ p)).trans (.orphanRecords _ p)
  have hvalues : TallyStands Q s (s.tornDown p) := by
    unfold State.tornDown State.settleSystemRecords
    exact horphaned.trans (.trans (.setValue (.overdue hp) _) (.setValue (.link Q p) _))
  rw [teardown_eq]
  exact hvalues.trans (.trans (.modPort _ p _) (.owe _ p))

/-- An expiry of p is p's own affair (R87). -/
theorem TallyStands.expire (hp : Q p) (s : State) (f : DeadlineFlag) : TallyStands Q s (s.expire p f) := by
  unfold State.expire
  split
  · exact .trans (.modService fun hn => absurd hp hn) (.setValue (.overdue hp) _)
  · exact .refl s

theorem TallyStands.warningExpires (s : State) (d : Dom) (serial : Byte) : TallyStands Q s (s.warningExpires d serial) := by
  unfold State.warningExpires
  split
  · exact .endWarning s d
  · exact .refl s

theorem TallyStands.pinUpdates (hs : TallyGuarded Q s) (g : Pin) (serial : Byte) : TallyStands Q s (s.pinUpdates g serial) := by
  unfold State.pinUpdates
  split
  · split
    · exact .refl s
    · next ha =>
      split
      · exact .refl s
      · exact .setValue (hs.applied ha) _
  · exact .refl s

/-- The port whose tally an internal request moves, if it moves one. -/
def Taking.tallies : Taking → Option Port
  | .teardown p | .deadline p _ _ => some p
  | .notice _ _ | .warning _ _ | .pinUpdate _ _ | .command _ _ => none

theorem TallyStands.carryOutRequest (hs : TallyGuarded Q s) (r : Taking) (hr : ∀ p ∈ r.tallies, Q p) :
    TallyStands Q s (s.carryOutRequest r) := by
  cases r with
  | teardown p => exact .teardown (hr p rfl) hs
  | notice p v => exact .setValue (.link Q p) _
  | deadline p k f => exact .expire (hr p rfl) s f
  | warning d serial => exact .warningExpires s d serial
  | pinUpdate g serial => exact .pinUpdates hs g serial
  | command p q => exact .refl s

end requests

end Sys2Proof.Machine
end

section
/-! Every command but the releases leaves every port's tally, and a release that of the ports other than its own (R72, R89). -/

namespace Sys2Proof.Machine

open Sys2Proof

variable {Q : Port → Prop}

/-! ## Commands that end no service entry -/

section commands
variable (s : State) (p : Port)

/-- A record comes to stand in a user slot (R12). -/
theorem Declares.tallyStands {s t : State} {i : SlotNo} {r : Record} (h : Declares s t i r) : TallyStands Q s t :=
  .of_values (by rw [h.next]) h.services fun j hj =>
    valueAt_congr (by rw [h.record, if_neg fun hji : j = i => hj (hji ▸ .user h.user)])

theorem TallyStands.declareCommand (id : Half) (kind init dflt dom policy : Byte) :
    TallyStands Q s (s.declare p id kind init dflt dom policy).state := by
  rcases s.declare_cases p id kind init dflt dom policy with h | ⟨i, r, h⟩
  · rw [h]
    exact .refl s
  · exact h.tallyStands

theorem TallyStands.retireCommand (h : Handle) : TallyStands Q s (s.retire p h).state := by
  refine withHandle_keeps (.refl s) fun i r hr => refusedIf_keeps (.refl s) fun hi => refusedIf_keeps (.refl s) fun _ => ?_
  split
  · dsimp only
    exact .retireRecord (.user (not_isSystemSlot hi)) hr
  · exact .refl s

theorem TallyStands.claim (h : Handle) : TallyStands Q s (s.claim p h).state := by
  refine withHandle_keeps (.refl s) fun i r _ => refusedIf_keeps (.refl s) fun _ => refusedIf_keeps (.refl s) fun _ => ?_
  split
  · exact .modRecord s i _ fun _ => rfl
  · split <;> exact .refl s
  · exact .refl s
  · exact .refl s

theorem TallyStands.lookup (id : Half) : TallyStands Q s (s.lookup id).state := by
  unfold State.lookup
  split
  · exact .refl s
  · split <;> exact .refl s

theorem TallyStands.lock (h : Handle) : TallyStands Q s (s.lock p h).state :=
  controlOnly_keeps (.refl s) (withHandle_keeps (.refl s) fun i _ _ => refusedIf_keeps (.refl s) fun _ =>
    refusedIf_keeps (.refl s) fun _ => .modRecord s i _ fun _ => rfl)

theorem TallyStands.writeValue {i : SlotNo} (hi : OutsideTally Q i) (r : Record) (v : Byte) :
    TallyStands Q s (s.writeValue i r v).state := by
  unfold State.writeValue
  split
  · exact .refl s
  · exact .change hi v 0

theorem TallyStands.set (h : Handle) (v : Byte) : TallyStands Q s (s.set p h v).state := by
  refine withHandle_keeps (.refl s) fun i r _ => refusedIf_keeps (.refl s) fun hi => ?_
  split
  · exact .refl s
  · exact .writeValue s (.user (not_isSystemSlot hi)) r v

theorem TallyStands.setIf (h : Handle) (e : Half) (v : Byte) : TallyStands Q s (s.setIf p h e v).state := by
  refine withHandle_keeps (.refl s) fun i r _ => refusedIf_keeps (.refl s) fun hi => ?_
  split
  · exact .refl s
  · split
    · exact .refl s
    · exact .writeValue s (.user (not_isSystemSlot hi)) r v

theorem TallyStands.raise (h : Handle) (n : Byte) : TallyStands Q s (s.raise p h n).state := by
  refine withHandle_keeps (.refl s) fun i r _ => refusedIf_keeps (.refl s) fun hi => refusedIf_keeps (.refl s) fun _ => ?_
  split
  · exact .refl s
  · exact .change (.user (not_isSystemSlot hi)) _ _

theorem TallyStands.createSub (i : SlotNo) (new : Sub) : TallyStands Q s (s.createSub i p new) :=
  .trans (.updSub s i p _) (.heldEvaluation _ i p)

theorem TallyStands.subscribe (h : Handle) (prio cond m mode cls attrs : Byte) :
    TallyStands Q s (s.subscribe p h prio cond m mode cls attrs).state := by
  refine withHandle_keeps (.refl s) fun i r _ => ?_
  split
  · exact .refl s
  · next new _ =>
    have hcreated : TallyStands Q s (s.createSub i p new) := .createSub s p i new
    split
    · refine refusedIf_keeps (.refl s) fun _ => ?_
      dsimp only [State.replaceSub]
      split
      · exact hcreated.trans (.departOn _ i p)
      · exact hcreated
    · exact refusedIf_keeps (.refl s) fun _ => hcreated

theorem TallyStands.unsubscribe (h : Handle) : TallyStands Q s (s.unsubscribe p h).state := by
  refine withHandle_keeps (.refl s) fun i r _ => ?_
  split
  · exact .refl s
  · refine refusedIf_keeps (.refl s) fun _ => ?_
    dsimp only [State.unsubscribeSub]
    split
    · exact .trans (.updSub s i p _) (.departOn _ i p)
    · exact .updSub s i p _

/-- The entry of an ACQUIRE is not OVERDUE (R67). -/
theorem TallyStands.takeIntoService (i : SlotNo) (u : Sub) (token : Byte) :
    TallyStands Q s (s.takeIntoService p i u token) := by
  have hstarted : ∀ t : State, TallyStands Q t (t.startDeadline p u.priority i token u.cls) := fun t => by
    unfold State.startDeadline
    split
    · exact .refl t
    · exact .of_same rfl rfl rfl
  have hentered : ∀ t : State, TallyStands Q t (t.modService p fun v =>
      { v with tokenCounter := token, list := v.list ++ [{ slot := i, token := token, overdue := false }] }) := fun t =>
    .modService fun _ => by simp [State.overdueCount]
  have hrotated : TallyStands Q s (s.modService p fun v => { v with rotation := v.rotation.set u.priority i }) :=
    .modService fun _ => rfl
  exact (((hrotated.trans (.updSub _ i p _)).trans (hentered _)).trans (hstarted _)).trans (.owe _ p)

theorem TallyStands.acquire : TallyStands Q s (s.acquire p).state := by
  rcases s.acquire_cases p with h | ⟨i, r, u, -, -, h⟩
  · rw [h]
    exact .refl s
  · rw [h]
    exact .takeIntoService s p i u _

theorem TallyStands.setThreshold (t : Byte) : TallyStands Q s (s.setThreshold p t).state := by
  unfold State.setThreshold
  split
  · exact .trans (.modService fun _ => rfl) (.owe _ p)
  · exact .refl s

theorem TallyStands.startWarning (d : Dom) (timeout : Byte) : TallyStands Q s (s.startWarning d timeout) := by
  have htimer : ∀ t : State, TallyStands Q t (t.startWarningTimer d (s.domains[d].serial + 1#8) timeout) := fun t => by
    unfold State.startWarningTimer
    split
    · exact .refl t
    · exact .of_same rfl rfl rfl
  exact .trans (.domain s d _ _) (htimer _)

theorem TallyStands.resetNow (d : Dom) : TallyStands Q s (s.resetNow d).state := by
  dsimp only [State.resetNow, State.enterHeld]
  exact .trans (.sweep s d) (.domain _ d _ _)

theorem TallyStands.domainReset (dom mode timeout : Byte) : TallyStands Q s (s.domainReset p dom mode timeout).state := by
  refine controlOnly_keeps (.refl s) ?_
  split
  · next d m _ _ =>
    unfold State.resetDomain
    split
    · split
      · exact .startWarning s d timeout
      · exact .resetNow s d
    · exact .resetNow s d
    · exact .refl s
    · dsimp only
      exact .endWarning s d
    · exact .refl s
  · exact .refl s

theorem TallyStands.evict (port : Byte) : TallyStands Q s (s.evict p port).state := by
  refine controlOnly_keeps (.refl s) ?_
  split
  · exact .refl s
  · exact refusedIf_keeps (.refl s) fun _ => refusedIf_keeps (.refl s) fun _ => .of_same rfl rfl rfl

theorem TallyStands.unbindPin (pin : Byte) : TallyStands Q s (s.unbindPin p pin).state := by
  refine controlOnly_keeps (.refl s) ?_
  split
  · exact .refl s
  · next g _ =>
    split
    · exact .refl s
    · next b _ => exact .unbindFrom s g b

theorem TallyStands.bindInput (g : Pin) {i : SlotNo} (hi : OutsideTally Q i) (f : Fin 16) (a : Level) (found : Option Level) :
    TallyStands Q s (s.bindInput g i f a found) := by
  have hbound : TallyStands Q s { s.inputBinding g i f a (foundLevel s.samples g found .highZ) with samples := s.samples + 1 } :=
    .trans (.trans (.modPin s g _) (.modRecord _ i (fun r => { r with owner := .pin g }) fun _ => rfl)) (.of_same rfl rfl rfl)
  unfold State.bindInput
  dsimp only
  split
  · exact hbound
  · exact hbound.trans (.setValue hi _)

theorem TallyStands.bindPin (found : Option Level) (pin : Byte) (h : Handle) (dir active filter : Byte) :
    TallyStands Q s (s.bindPin p found pin h dir active filter).state := by
  refine controlOnly_keeps (.refl s) (withHandle_keeps (.refl s) fun i r _ => refusedIf_keeps (.refl s) fun hi => ?_)
  split
  · split
    · exact .refl s
    · dsimp only
      split
      · exact .bindInput s _ (.user (not_isSystemSlot hi)) _ _ found
      · exact .modPin s _ _
  · exact .refl s

theorem TallyStands.pinQuery (pin : Byte) : TallyStands Q s (s.pinQuery pin).state := by
  unfold State.pinQuery
  split <;> exact .refl s

end commands

/-! ## DOMAIN_RELEASE -/

section release
variable {s : State}

/-- What is applied again is the level of a bound pin, and no pin is bound to a system record (R106). -/
theorem TallyStands.reapply (hs : TallyGuarded Q s) (d : Dom) : TallyStands Q s (s.reapply d).1 := by
  have hslots : ∀ (l : List SlotNo) (acc : State × Nat), TallyGuarded Q acc.1 →
      TallyStands Q acc.1 (l.foldl (State.reapplySlot d) acc).1 := by
    intro l
    induction l with
    | nil => exact fun acc _ => .refl acc.1
    | cons i l ih =>
      intro acc hacc
      have hslot : TallyStands Q acc.1 (State.reapplySlot d acc i).1 ∧ Moves acc.1 (State.reapplySlot d acc i).1 := by
        unfold State.reapplySlot
        split
        · exact ⟨.refl _, .refl _⟩
        · next v hv =>
          split
          · exact ⟨.refl _, .refl _⟩
          · obtain ⟨-, g, -, -, -, -, ha⟩ := State.reapplied_some hv
            exact ⟨.change (hacc.applied ha) v 0, (Move.change v 0 (.of_applied ha)).moves⟩
      exact hslot.1.trans (ih _ (hacc.moves hslot.2))
  exact hslots (List.finRange 128) (s, 0) hs

theorem TallyStands.releaseHeld (hs : TallyGuarded Q s) (d : Dom) : TallyStands Q s (s.releaseHeld d).1 := by
  have hrun : Moves s ((s.modDomain d fun x => { x with state := .run }).setValue (domainSlot d) (domStateByte .run)) :=
    (Move.domain d fun x => { x with state := .run }).moves
  exact .trans (.domain s d _ _) (.reapply (hs.moves hrun) d)

theorem TallyStands.domainRelease (hs : TallyGuarded Q s) (p : Port) (dom : Byte) :
    TallyStands Q s (s.domainRelease p dom).state := by
  refine controlOnly_keeps (.refl s) ?_
  split
  · exact .refl s
  · next d _ =>
    unfold State.releaseDomain
    split
    · exact .refl s
    · exact .trans (.cancelWarningTimer s d) (.domain _ d _ _)
    · dsimp only
      exact .releaseHeld hs d

end release

/-! ## RELEASE and RELEASE_TOP -/

section ending
variable {s : State} {p : Port}

theorem Steady.isDraining {s t : State} (h : Steady s t) (i : SlotNo) : t.isDraining i = s.isDraining i := by
  have hstate : ∀ m : State, m.isDraining i = (m.slots[i].record.map Record.form).any fun r => decide (r.state = .draining) := by
    intro m
    rw [State.isDraining]
    cases m.slots[i].record <;> rfl
  rw [hstate, hstate, h.form i]

theorem Steady.overdueBack (s : State) (p : Port) (e : Entry) : Steady s (s.overdueBack p e) := by
  unfold State.overdueBack
  split
  · exact .given s _ _
  · exact .refl s

theorem TallyStands.releaseSub {i : SlotNo} (h : s.isDraining i = true → OutsideTally Q i) (p : Port) :
    TallyStands Q s (s.releaseSub i p) := by
  unfold State.releaseSub
  split
  · next hd => exact .removeDraining (h hd) p
  · exact .heldEvaluation s i p

theorem TallyStands.acknowledge (s : State) (i : SlotNo) (p : Port) (guard : Bool) :
    TallyStands Q s (s.acknowledge i p guard) := by
  unfold State.acknowledge
  split
  · exact .departOn s i p
  · exact .refl s

/-- Stages 4 to 6 of a release, which follow the entry's leaving and its OVERDUE record, move no tally (R72). -/
theorem TallyStands.endEntry_after (hs : TallyGuarded Q s) (e : Entry) :
    TallyStands Q (((s.cancelFor p e.slot).removeEntry p e.slot).overdueBack p e) (s.endEntry p e) := by
  have hdraining : (((s.cancelFor p e.slot).removeEntry p e.slot).overdueBack p e).isDraining e.slot = s.isDraining e.slot := by
    rw [(Steady.overdueBack _ p e).isDraining, entryGone_isDraining]
  exact ((TallyStands.releaseSub (fun hd => hs.draining (hdraining ▸ hd)) p).trans (.acknowledge _ e.slot p _)).trans
    (.owe _ p)

/-- The ending of an entry of p is p's own affair (R72). -/
theorem TallyStands.endEntry (hp : Q p) (hs : TallyGuarded Q s) (e : Entry) : TallyStands Q s (s.endEntry p e) := by
  have hback : ∀ t : State, TallyStands Q t (t.overdueBack p e) := fun t => by
    unfold State.overdueBack
    split
    · exact .setValue (.overdue hp) _
    · exact .refl t
  exact ((TallyStands.entryGone hp s e.slot).trans (hback _)).trans (.endEntry_after hs e)

theorem TallyStands.release (hp : Q p) (hs : TallyGuarded Q s) (h : Handle) : TallyStands Q s (s.release p h).state := by
  refine withHandle_keeps (.refl s) fun i r _ => ?_
  split
  · exact .refl s
  · exact .endEntry hp hs _

theorem TallyStands.releaseTop (hp : Q p) (hs : TallyGuarded Q s) : TallyStands Q s (s.releaseTop p).state := by
  unfold State.releaseTop
  split
  · exact .refl s
  · exact .endEntry hp hs _

end ending

/-- The command ends a service entry of its port. -/
def Command.endsEntry : Command → Bool
  | .release _ | .releaseTop => true
  | .declare .. | .retire _ | .claim _ | .lookup _ | .lock _ | .set .. | .setIf .. | .raise .. | .read _ | .readGroup _
  | .subscribe .. | .unsubscribe _ | .acquire | .threshold _ | .serviceList | .domainReset .. | .domainRelease _
  | .bindPin .. | .unbindPin _ | .pinQuery _ | .evict _ => false

theorem TallyStands.carryOut {s : State} (hs : TallyGuarded Q s) (p : Port) (found : Option Level) (c : Command)
    (hc : Command.endsEntry c = true → Q p) : TallyStands Q s (s.carryOut p found c).state := by
  cases c with
  | declare id kind init dflt dom policy => exact .declareCommand s p id kind init dflt dom policy
  | retire h => exact .retireCommand s p h
  | claim h => exact .claim s p h
  | lookup id => exact .lookup s id
  | lock h => exact .lock s p h
  | set h v => exact .set s p h v
  | setIf h e v => exact .setIf s p h e v
  | raise h n => exact .raise s p h n
  | read h => exact withHandle_keeps (.refl s) fun _ _ _ => .refl s
  | readGroup l => exact refusedIf_keeps (.refl s) fun _ => .refl s
  | subscribe h prio cond m mode cls attrs => exact .subscribe s p h prio cond m mode cls attrs
  | unsubscribe h => exact .unsubscribe s p h
  | acquire => exact .acquire s p
  | release h => exact .release (hc rfl) hs h
  | releaseTop => exact .releaseTop (hc rfl) hs
  | threshold t => exact .setThreshold s p t
  | serviceList => exact .refl s
  | domainReset dom mode timeout => exact .domainReset s p dom mode timeout
  | domainRelease dom => exact .domainRelease hs p dom
  | bindPin pin h dir active filter => exact .bindPin s p found pin h dir active filter
  | unbindPin pin => exact .unbindPin s p pin
  | pinQuery pin => exact .pinQuery s pin
  | evict port => exact .evict s p port

end Sys2Proof.Machine
end

section
/-! The entries an expiry marks and a release removes, and the OVERDUE record that counts them over every row (R87 to R89). -/

namespace Sys2Proof.Machine

open Sys2Proof

/-! ## One entry of a service list -/

/-- The entry as an expiry of f leaves it: OVERDUE, if f names its slot and its token (R87). -/
def Entry.markedBy (f : DeadlineFlag) (e : Entry) : Entry :=
  if e.slot = f.slot ∧ e.token = f.token then { e with overdue := true } else e

section list
variable {older newer : List Entry} {e : Entry}

theorem SlotsApart.older_apart (h : SlotsApart (older ++ e :: newer)) : ∀ x ∈ older ++ newer, x.slot ≠ e.slot := by
  obtain ⟨-, hnewer, hacross⟩ := List.pairwise_append.mp h
  intro x hx
  rcases List.mem_append.mp hx with hx | hx
  · exact hacross x hx e List.mem_cons_self
  · exact ((List.pairwise_cons.mp hnewer).1 x hx).symm

/-- Of entries on slots of their own an expiry marks the one it names, in its place. -/
theorem SlotsApart.map_markedBy (h : SlotsApart (older ++ e :: newer)) {f : DeadlineFlag} (hslot : e.slot = f.slot)
    (htoken : e.token = f.token) :
    (older ++ e :: newer).map (Entry.markedBy f) = older ++ { e with overdue := true } :: newer := by
  have hothers : ∀ l ⊆ older ++ newer, l.map (Entry.markedBy f) = l := fun l hl =>
    (List.map_congr_left fun x hx => if_neg fun c => h.older_apart x (hl hx) (c.1.trans hslot.symm)).trans (List.map_id l)
  rw [List.map_append, List.map_cons, hothers older (List.subset_append_left _ _),
    hothers newer (List.subset_append_right _ _), Entry.markedBy, if_pos ⟨hslot, htoken⟩]

/-- Of entries on slots of their own the removal of one slot takes one. -/
theorem SlotsApart.filter_slot (h : SlotsApart (older ++ e :: newer)) :
    (older ++ e :: newer).filter (fun x => x.slot ≠ e.slot) = older ++ newer := by
  have hothers : (older ++ newer).filter (fun x => x.slot ≠ e.slot) = older ++ newer :=
    List.filter_eq_self.mpr fun x hx => decide_eq_true (h.older_apart x hx)
  rw [List.filter_append] at hothers
  rw [List.filter_append, List.filter_cons_of_neg (by simp), hothers]

end list

/-- A service list has at most one entry of each priority (R70). -/
theorem ServiceListsOrdered.length_le {s : State} (h : ServiceListsOrdered s) (p : Port) : s.services[p].list.length ≤ 8 := by
  obtain ⟨hsome, hdecreasing⟩ := h p
  have hnodup : (s.services[p].list.map fun e => s.priorityAt p e.slot).Nodup :=
    List.pairwise_map.mpr (hdecreasing.imp fun hlt => (Nat.ne_of_lt hlt).symm)
  have hbelow : (s.services[p].list.map fun e => s.priorityAt p e.slot) ⊆ List.range 8 := by
    intro n hn
    obtain ⟨e, he, rfl⟩ := List.mem_map.mp hn
    obtain ⟨u, hu⟩ := Option.isSome_iff_exists.mp (hsome e he)
    rw [List.mem_range, State.priorityAt, hu]
    exact u.priority.isLt
  simpa using (List.subperm_of_subset hnodup hbelow).length_le

/-! ## DEADLINE_EXPIRY_REQUEST (R87) -/

section expire
variable {s : State} {p : Port} {f : DeadlineFlag}

/-- p's service list with the entry e, between `older` and `newer`, marked OVERDUE. -/
def State.markedAt (s : State) (p : Port) (older newer : List Entry) (e : Entry) : State :=
  { s with services := s.services.set p { s.services[p] with list := older ++ { e with overdue := true } :: newer } }

/-- An expiry that names no unmarked entry is discarded. -/
theorem State.expire_discarded
    (h : ∀ e ∈ s.services[p].list, e.slot = f.slot → e.token = f.token → e.overdue = true) : s.expire p f = s := by
  refine if_neg fun hany => ?_
  obtain ⟨e, he, hc⟩ := List.any_eq_true.mp hany
  obtain ⟨hslot, htoken, hfalse⟩ := of_decide_eq_true hc
  exact Bool.false_ne_true (hfalse.symm.trans (h e he hslot htoken))

/-- An expiry that names an unmarked entry marks it in its place, and the OVERDUE record advances. -/
theorem State.expire_marks {older newer : List Entry} {e : Entry} (hlist : s.services[p].list = older ++ e :: newer)
    (hapart : SlotsApart s.services[p].list) (hslot : e.slot = f.slot) (htoken : e.token = f.token)
    (hunmarked : e.overdue = false) :
    s.expire p f = (s.markedAt p older newer e).setValue (overdueSlot p) (s.valueAt (overdueSlot p) + 1#8) := by
  have hany : (s.services[p].list.any fun e => e.slot = f.slot ∧ e.token = f.token ∧ e.overdue = false) = true :=
    List.any_eq_true.mpr ⟨e, by rw [hlist]; simp, decide_eq_true ⟨hslot, htoken, hunmarked⟩⟩
  have hmark := SlotsApart.map_markedBy (hlist ▸ hapart) hslot htoken
  rw [State.markedAt, ← hmark, ← hlist]
  exact if_pos hany

end expire

/-! ## The tally of one port -/

/-- The OVERDUE record of q shows the number of OVERDUE entries in its service list (R89). -/
def Tallied (q : Port) (s : State) : Prop := s.valueAt (overdueSlot q) = BitVec.ofNat 8 (s.overdueCount q)

/-- With at most 8 entries in the list, no count is beyond a byte. -/
theorem tallied_iff {s : State} (h : ServiceListsOrdered s) (q : Port) :
    (s.valueAt (overdueSlot q)).toNat = s.services[q].list.countP (·.overdue) ↔ Tallied q s := by
  have hbound : s.overdueCount q < 2 ^ 8 :=
    Nat.lt_of_le_of_lt (Nat.le_trans List.countP_le_length (h.length_le q)) (by decide)
  rw [Tallied, ← BitVec.toNat_inj, BitVec.toNat_ofNat, Nat.mod_eq_of_lt hbound]
  rfl

theorem TallyStands.tallied {Q : Port → Prop} {s t : State} (h : TallyStands Q s t) {q : Port} (hq : ¬ Q q)
    (hs : Tallied q s) : Tallied q t := by
  rw [Tallied, h.value q hq, h.count q hq]
  exact hs

/-- What moves no tally keeps each. -/
theorem TallyStands.tallied_all {s t : State} (h : TallyStands (fun _ => False) s t) {q : Port} (hs : Tallied q s) :
    Tallied q t := h.tallied id hs

/-- A port's list and its OVERDUE record, which is there, have been altered together. -/
theorem Tallied.setValue {s : State} {q : Port} {n : Nat} (hsys : SystemsHold s) (hn : s.overdueCount q = n) :
    Tallied q (s.setValue (overdueSlot q) (BitVec.ofNat 8 n)) := by
  obtain ⟨r, hr, -⟩ := hsys.record (i := overdueSlot q) (by rw [overdueSlot_val]; omega)
  rw [Tallied, State.setValue_valueAt, if_pos ⟨rfl, by rw [hr]; rfl⟩,
    overdueCount_congr (s.setValue_services _ _), hn]

section stages
variable {s : State} {p : Port}

/-- A state that differs in services and timers alone. -/
theorem SystemsHold.of_services {s t : State} (h : SystemsHold s)
    (ht : t = { s with services := t.services, deadlines := t.deadlines }) : SystemsHold t := by
  rw [ht]
  exact h

/-- An expiry marks one entry more and advances the OVERDUE record by 1, or is discarded (R87). -/
theorem Tallied.expire (hsys : SystemsHold s) (hl : ServiceListsOrdered s) (hs : Tallied p s) (f : DeadlineFlag) :
    Tallied p (s.expire p f) := by
  by_cases hidle : ∀ e ∈ s.services[p].list, e.slot = f.slot → e.token = f.token → e.overdue = true
  · rw [State.expire_discarded hidle]
    exact hs
  · push Not at hidle
    obtain ⟨e, he, hslot, htoken, hunmarked⟩ := hidle
    obtain ⟨older, newer, hlist⟩ := List.append_of_mem he
    have hunmarked := Bool.eq_false_of_not_eq_true hunmarked
    rw [State.expire_marks hlist (hl.slotsApart p) hslot htoken hunmarked]
    have hone : (s.markedAt p older newer e).overdueCount p = s.overdueCount p + 1 := by
      rw [State.overdueCount, State.overdueCount, State.markedAt, set_get, if_pos rfl, hlist]
      simp only [List.countP_append, List.countP_cons, hunmarked, if_true, Bool.false_eq_true, if_false]
      omega
    have hvalue : s.valueAt (overdueSlot p) + 1#8 = BitVec.ofNat 8 (s.overdueCount p + 1) := by
      rw [hs, BitVec.ofNat_add]
    rw [hvalue]
    exact .setValue (hsys.of_services rfl) hone

/-- The entry gone, its OVERDUE mark is taken back from the OVERDUE record (R72, R78). -/
theorem Tallied.endEntry (hsys : SystemsHold s) (hl : ServiceListsOrdered s) (hs : Tallied p s) {e : Entry}
    (he : e ∈ s.services[p].list) : Tallied p (s.endEntry p e) := by
  refine (TallyStands.endEntry_after (.inr hsys) e).tallied_all ?_
  obtain ⟨older, newer, hlist⟩ := List.append_of_mem he
  have hfilter := SlotsApart.filter_slot (hlist ▸ hl.slotsApart p)
  rw [← hlist] at hfilter
  have hgone := entryGone_eq s p e.slot
  generalize (s.cancelFor p e.slot).removeEntry p e.slot = m at hgone
  have hsysm : SystemsHold m := hsys.of_services (by rw [hgone])
  have hvalue : m.valueAt (overdueSlot p) = s.valueAt (overdueSlot p) := by
    rw [hgone]
    rfl
  have hcount : s.overdueCount p = m.overdueCount p + if e.overdue = true then 1 else 0 := by
    rw [hgone, State.overdueCount, State.overdueCount, set_get, if_pos rfl, hfilter, hlist]
    simp only [List.countP_append, List.countP_cons]
    omega
  rw [State.overdueBack, hvalue, hs, hcount]
  split
  · rw [BitVec.ofNat_add, BitVec.add_sub_cancel]
    exact .setValue hsysm rfl
  · rw [Tallied, hvalue, hs, hcount, if_neg ‹_›, Nat.add_zero]

/-- After its teardown p has no entry, and its OVERDUE record is 0 (R152, R158). -/
theorem Tallied.teardown (s : State) (p : Port) : Tallied p (s.teardown p) := by
  have hempty : (s.attended p).overdueCount p = 0 := by
    rw [State.overdueCount, attended_services, set_get, if_pos rfl]
    rfl
  have horphaned : (s.orphaned p).overdueCount p = 0 := by
    have hstands : TallyStands (fun _ => False) (s.attended p) (s.orphaned p) := by
      unfold State.orphaned State.departed
      exact .trans (.leaveAwaited _ p) (.orphanRecords _ p)
    rw [hstands.count p id, hempty]
  have hzero : ∀ t : State, (t.setValue (overdueSlot p) 0#8).valueAt (overdueSlot p) = 0#8 := fun t => by
    rw [State.setValue_valueAt]
    split
    · rfl
    · next hc =>
      rw [State.valueAt]
      cases hr : t.slots[overdueSlot p].record with
      | none => rfl
      | some r => exact absurd ⟨rfl, by rw [hr]; rfl⟩ hc
  have hsettled : Tallied p ((s.orphaned p).setValue (overdueSlot p) 0#8) := by
    rw [Tallied, hzero, overdueCount_congr (State.setValue_services _ _ _), horphaned]
  have hdone : TallyStands (fun _ => False) ((s.orphaned p).setValue (overdueSlot p) 0#8)
      ((s.tornDown p).completeTeardown p) := by
    unfold State.tornDown State.settleSystemRecords
    exact .trans (.setValue (.link _ p) _) (.trans (.modPort _ p _) (.owe _ p))
  rw [teardown_eq]
  exact hdone.tallied_all hsettled

end stages

/-! ## The rows -/

section rows
variable {s t : State}

theorem Tallied.carryOutRequest (hsys : SystemsHold s) (hl : ServiceListsOrdered s) (hs : ∀ q, Tallied q s) (r : Taking)
    (q : Port) : Tallied q (s.carryOutRequest r) := by
  by_cases hq : q ∈ r.tallies
  · cases r with
    | teardown p =>
      obtain rfl := Option.some.inj hq
      exact .teardown s p
    | deadline p k f =>
      obtain rfl := Option.some.inj hq
      exact .expire hsys hl (hs p) f
    | notice | warning | pinUpdate | command => cases hq
  · exact (TallyStands.carryOutRequest (Q := (· ∈ r.tallies)) (.inr hsys) r fun _ hp => hp).tallied hq (hs q)

theorem Tallied.carryOut (hsys : SystemsHold s) (hl : ServiceListsOrdered s) (hs : ∀ q, Tallied q s) (p : Port)
    (found : Option Level) (c : Command) (q : Port) : Tallied q (s.carryOut p found c).state := by
  by_cases hq : Command.endsEntry c = true ∧ q = p
  · obtain ⟨hc, rfl⟩ := hq
    cases c with
    | release h =>
      refine withHandle_keeps (hs q) fun i r _ => ?_
      split
      · exact hs q
      · next hfind => exact .endEntry hsys hl (hs q) (List.mem_of_find?_eq_some hfind)
    | releaseTop =>
      show Tallied q (s.releaseTop q).state
      unfold State.releaseTop
      split
      · exact hs q
      · next hlast => exact .endEntry hsys hl (hs q) (List.mem_of_getLast? hlast)
    | _ => cases hc
  · exact (TallyStands.carryOut (Q := fun r => Command.endsEntry c = true ∧ r = p) (.inr hsys) p found c
      fun hc => ⟨hc, rfl⟩).tallied hq (hs q)

/-- Right after reset release no entry stands, and every OVERDUE record is 0 (R7). -/
theorem Tallied.released (s : State) (levels : Pin → Level) (q : Port) : Tallied q (s.released levels) := by
  obtain ⟨id, hid⟩ := systemId_some (i := overdueSlot q) (by rw [overdueSlot_val]; omega)
  have hvalue : systemValue (strapEnabled levels) (overdueSlot q) = 0#8 := dif_neg (by rw [overdueSlot_val]; omega)
  have hlist : (s.released levels).services[q].list = [] := by
    rw [State.released, State.cold_service]
    rfl
  rw [Tallied, State.overdueCount, hlist, State.valueAt, State.released_slot, releasedSlot_system _ hid]
  exact hvalue

theorem RowCase.tallied (h : RowCase s t) (hsys : s.rstLow = false → SystemsHold s) (hl : ServiceListsOrdered s)
    (hs : s.rstLow = false → ∀ q, Tallied q s) (hr : t.rstLow = false) (q : Port) : Tallied q t := by
  have hsame : ∀ {u : State}, u.pending = s.pending → u.services = s.services → u.slots = s.slots → u.rstLow = s.rstLow →
      u.rstLow = false → Tallied q u := fun h1 h2 h3 h4 h5 =>
    (TallyStands.of_same h1 h2 h3).tallied_all (hs (h4.symm.trans h5) q)
  have hordered : ∀ {u : State}, u.slots = s.slots → u.services = s.services → ServiceListsOrdered u := fun h1 h2 =>
    (ServedKept.of_same h1 h2).ordered hl
  cases h with
  | idle h => rw [h] at hr ⊢; exact hs hr q
  | cold h => rw [h] at hr; cases hr
  | released levels _ h => rw [h]; exact .released s levels q
  | divided h => rw [h] at hr ⊢; exact hsame rfl rfl rfl rfl hr
  | ticked board h =>
    rw [h] at hr ⊢
    exact hsame s.engaged_pending s.engaged_services s.engaged_slots s.engaged_rstLow hr
  | accepted g h => rw [h] at hr ⊢; exact hsame rfl rfl rfl rfl hr
  | deadlineRanOut p k h => rw [h] at hr ⊢; exact hsame rfl rfl rfl rfl hr
  | warningRanOut d h => rw [h] at hr ⊢; exact hsame rfl rfl rfl rfl hr
  | atPort p f h => rw [h] at hr ⊢; exact hsame rfl rfl rfl rfl hr
  | request r hc h =>
    have hhigh := rstLow_of_choice hc
    have htaken : ∀ p, Tallied p (s.taken r) := fun p =>
      (TallyStands.of_same (s.taken_pending r) (s.taken_services r) (s.taken_slots r)).tallied_all (hs hhigh p)
    have hdone := Tallied.carryOutRequest ((Move.stand (.taken s r)).systemsHold (hsys hhigh))
      (hordered (s.taken_slots r) (s.taken_services r)) htaken r q
    rw [h]
    exact (TallyStands.of_same rfl rfl rfl).tallied_all hdone
  | command p c found a hc h =>
    have hhigh := rstLow_of_choice hc
    have hserving : ∀ r, Tallied r (s.serving p c) := fun r =>
      (TallyStands.of_same (s.taken_pending _) (s.serving_services p c) (s.serving_slots p c)).tallied_all (hs hhigh r)
    have hdone := Tallied.carryOut ((Move.stand (.serving s p c)).systemsHold (hsys hhigh))
      (hordered (s.serving_slots p c) (s.serving_services p c)) hserving p found c.command q
    rw [h]
    exact (TallyStands.of_same rfl rfl rfl).tallied_all hdone

end rows

/-- Settles O52: every stage leaves OVERDUE records and OVERDUE entries alone, but for an expiry, which advances both by 1, the
ending of an entry, which takes both back, and a teardown, which leaves both at 0. -/
theorem stepsKeepOverdueCounted : Obligations.StepsKeepOverdueCounted := by
  intro s t hsys hl hs ht hr q
  have hl' : ServiceListsOrdered t := stepsKeepServiceListsOrdered s t hl ht
  obtain ⟨rest, hrow⟩ := step_rowCase ht
  exact (tallied_iff hl' q).mpr
    (hrow.tallied hsys hl (fun hhigh p => (tallied_iff hl p).mp (hs hhigh p)) hr q)

end Sys2Proof.Machine
end

section
/-! Every row has an outcome that leaves the waiting steps; and a row out of its occasion does nothing (R81, R143). -/

namespace Sys2Proof.Machine

open Sys2Proof

/-! ## The waiting steps -/

/-- Of the waiting steps no operation of the engine asks anything. -/
theorem tallyGuarded_all (s : State) : TallyGuarded (fun _ => True) s := .inl fun _ => trivial

theorem carryOut_pending (s : State) (p : Port) (found : Option Level) (c : Command) :
    (s.carryOut p found c).state.pending = s.pending :=
  (TallyStands.carryOut (tallyGuarded_all s) p found c fun _ => trivial).pending

theorem carryOutRequest_pending (s : State) (r : Taking) : (s.carryOutRequest r).pending = s.pending :=
  (TallyStands.carryOutRequest (tallyGuarded_all s) r fun _ _ => trivial).pending

theorem RowCase.pending {s t : State} (h : RowCase s t) : t.pending = s.pending := by
  cases h with
  | ticked board h => rw [h]; exact s.engaged_pending
  | request r _ h => rw [h, State.sendIndications_pending, carryOutRequest_pending, State.taken_pending]
  | command p q found a _ h =>
    rw [h, State.sendIndications_pending, State.sendAnswer_pending, carryOut_pending]
    exact s.taken_pending _
  | idle h | cold h | released _ _ h | divided h | accepted _ h | deadlineRanOut _ _ h | warningRanOut _ h | atPort _ _ h =>
    subst h
    rfl

/-! ## Alterations that alter nothing -/

section same
variable {s : State}

theorem State.modPort_same {p : Port} {f : PortState → PortState} (h : f s.ports[p] = s.ports[p]) : s.modPort p f = s := by
  rw [State.modPort, h, set_same]

theorem State.modPin_same {g : Pin} {f : PinState → PinState} (h : f s.pins[g] = s.pins[g]) : s.modPin g f = s := by
  rw [State.modPin, h, set_same]

theorem State.modDeadline_same {p : Port} {k : Prio} {f : DeadlineUnit → DeadlineUnit}
    (h : f s.deadlines[p][k] = s.deadlines[p][k]) : s.modDeadline p k f = s := by
  rw [State.modDeadline, h, set_same, set_same]

theorem State.modWarning_same {d : Dom} {f : WarningUnit → WarningUnit} (h : f s.warnings[d] = s.warnings[d]) :
    s.modWarning d f = s := by
  rw [State.modWarning, h, set_same]

end same

/-! ## Happenings that are not due -/

theorem DeadlineUnit.runOut_idle {u : DeadlineUnit} (h : u.runOutDue = false) : u.runOut = u := by
  unfold DeadlineUnit.runOut
  unfold DeadlineUnit.runOutDue at h
  split
  · next ht =>
    rw [ht] at h
    exact if_neg (of_decide_eq_false h)
  · rfl

theorem WarningUnit.runOut_idle {u : WarningUnit} (h : u.runOutDue = false) : u.runOut = u := by
  unfold WarningUnit.runOut
  unfold WarningUnit.runOutDue at h
  split
  · next ht =>
    rw [ht] at h
    exact if_neg (of_decide_eq_false h)
  · rfl

theorem PinState.accepts_idle {x : PinState} (h : x.acceptDue = false) : x.accepts = x := by
  unfold PinState.accepts
  unfold PinState.acceptDue at h
  split
  · next hf =>
    rw [hf] at h
    exact if_neg (Bool.eq_false_iff.mp h)
  · rfl

theorem PortState.answerArrives_idle {q : PortState} (h : q.inAnswer = none) : q.answerArrives = q := by
  rw [PortState.answerArrives, h]

theorem PortState.indicationArrives_idle {q : PortState} (h : q.inIndication = none) : q.indicationArrives = q := by
  rw [PortState.indicationArrives, h]

theorem PortState.evictArrives_idle {q : PortState} (h : q.inEvict = false) : q.evictArrives = q :=
  if_neg (Bool.eq_false_iff.mp h)

theorem PortState.completionArrives_idle {q : PortState} (h : q.inCompletion = false) : q.completionArrives = q :=
  if_neg (Bool.eq_false_iff.mp h)

/-- A row that names another command than the one taken does nothing. -/
theorem Takes.other_row {s : State} {p : Port} {tag : Byte} {c : Command} {rest : List Queued} (h : Takes s p tag c rest)
    (found : Option Level) {o : Opcode} (ho : o ≠ c.opcode) : exec (rowOf p found o) s = .next s := by
  cases o
  all_goals
    refine congrArg Host.Outcome.next (State.takeCommand_other s h ?_)
    split
    · exact absurd rfl ho
    · rfl

/-- Settles O2: what any row does (`exec_rowCase`) leaves the waiting steps, and each row that looks for an occasion finds
none where there is none. -/
theorem everyStepGoesOn : Obligations.EveryStepGoesOn := by
  unfold Obligations.EveryStepGoesOn
  refine ⟨fun c s => ?_, fun s => ⟨fun board hr => ?_, fun board h => ?_, fun hd => ?_, fun p k h => ?_, fun d h => ?_,
    fun g h => ?_, fun p h => ?_, fun p h => ?_, fun p h => ?_, fun p h => ?_, fun p tag c rest found o h ho => ?_⟩⟩
  · obtain ⟨t, ht, hrow⟩ := exec_rowCase c s
    exact ⟨t, ht, hrow.pending⟩
  · exact congrArg Host.Outcome.next (if_neg (Bool.eq_false_iff.mp hr))
  · refine congrArg Host.Outcome.next (if_neg fun ⟨hr, hd, hu⟩ => ?_)
    rcases h with h | h | h
    · exact Bool.false_ne_true (hr.symm.trans h)
    · exact h hd
    · exact Bool.false_ne_true (hu.symm.trans h)
  · refine congrArg Host.Outcome.next (if_neg fun c => ?_)
    rw [hd] at c
    exact absurd c.2 (by decide)
  · exact congrArg Host.Outcome.next (State.modDeadline_same (DeadlineUnit.runOut_idle h))
  · exact congrArg Host.Outcome.next (State.modWarning_same (WarningUnit.runOut_idle h))
  · exact congrArg Host.Outcome.next (State.modPin_same (PinState.accepts_idle h))
  · exact congrArg Host.Outcome.next (State.modPort_same (PortState.answerArrives_idle h))
  · exact congrArg Host.Outcome.next (State.modPort_same (PortState.indicationArrives_idle h))
  · exact congrArg Host.Outcome.next (State.modPort_same (PortState.evictArrives_idle h))
  · exact congrArg Host.Outcome.next (State.modPort_same (PortState.completionArrives_idle h))
  · exact h.other_row found ho

end Sys2Proof.Machine
end

section
/-! A tick, and what belongs to it: timers reduced, pins sampled, filters run, run-outs and acceptances (R81, R85, R91, R111,
R117, R118). -/

namespace Sys2Proof.Machine

open Sys2Proof

/-! ## What the fall of a tick leaves of timers and pins

A request that is chosen loses its flag, and no more. -/

section engaged
variable (s : State)

theorem State.clearFlag_deadline (r : Taking) (p : Port) (k : Prio) :
    (s.clearFlag r).deadlines[p][k] = { s.deadlines[p][k] with flag := (s.clearFlag r).deadlines[p][k].flag } := by
  cases r with
  | deadline q j f =>
    rw [State.clearFlag, State.modDeadline_get]
    split
    · next h => rw [h.1, h.2]
    · rfl
  | teardown | notice | warning | pinUpdate | command => rfl

theorem State.clearFlag_warning (r : Taking) (d : Dom) :
    (s.clearFlag r).warnings[d] = { s.warnings[d] with flag := (s.clearFlag r).warnings[d].flag } := by
  cases r with
  | warning e serial =>
    rw [State.clearFlag, State.modWarning_get]
    split
    · next h => rw [h]
    · rfl
  | teardown | notice | deadline | pinUpdate | command => rfl

theorem State.clearFlag_pin (r : Taking) (g : Pin) :
    (s.clearFlag r).pins[g] = { s.pins[g] with flag := (s.clearFlag r).pins[g].flag } := by
  cases r with
  | pinUpdate h serial =>
    rw [State.clearFlag, State.modPin_get]
    split
    · next h => rw [h]
    · rfl
  | teardown | notice | deadline | warning | command => rfl

theorem State.engaged_deadline (p : Port) (k : Prio) :
    s.engaged.deadlines[p][k] = { s.deadlines[p][k] with flag := s.engaged.deadlines[p][k].flag } := by
  rw [State.engaged_spec]
  split
  · exact s.clearFlag_deadline _ p k
  · rfl
  · rfl

theorem State.engaged_warning (d : Dom) : s.engaged.warnings[d] = { s.warnings[d] with flag := s.engaged.warnings[d].flag } := by
  rw [State.engaged_spec]
  split
  · exact s.clearFlag_warning _ d
  · rfl
  · rfl

theorem State.engaged_pin (g : Pin) : s.engaged.pins[g] = { s.pins[g] with flag := s.engaged.pins[g].flag } := by
  rw [State.engaged_spec]
  split
  · exact s.clearFlag_pin _ g
  · rfl
  · rfl

end engaged

/-! ## The tick -/

section ticked
variable (s : State) (board : Board)

theorem State.ticked_deadline (p : Port) (k : Prio) : (s.ticked board).deadlines[p][k] = s.deadlines[p][k].ticked := by
  simp [State.ticked]

theorem State.ticked_warning (d : Dom) : (s.ticked board).warnings[d] = s.warnings[d].ticked := by
  simp [State.ticked]

theorem State.ticked_pin (g : Pin) :
    (s.ticked board).pins[g] = s.pins[g].sampled (foundLevel s.samples g board[g] s.pins[g].driver) := ofFn_get _ g

end ticked

/-- What one driver alone, or both alike, drive is the level found (R111). -/
theorem foundLevel_board (sample : Nat) (g : Pin) (l : Level) : foundLevel sample g (some l) .highZ = l := rfl

theorem foundLevel_driven (sample : Nat) (g : Pin) {board : Option Level} {l : Level} (h : board = none ∨ board = some l) :
    foundLevel sample g board (.driving l) = l := by
  rcases h with rfl | rfl
  · rfl
  · exact if_pos rfl

section sampled
variable {x : PinState} (l : Level)

/-- A sample alters the raw level and the filter alone. -/
theorem PinState.sampled_eq (x : PinState) : x.sampled l = { x with raw := l, input := (x.sampled l).input } := by
  unfold PinState.sampled
  split
  · split <;> rfl
  · rfl

theorem PinState.sampled_raw (x : PinState) : (x.sampled l).raw = l := by rw [PinState.sampled_eq]

/-- The filter of an INPUT-bound pin runs once (Table 7-3). -/
theorem PinState.sampled_bound {b : Binding} {f : Fin 16} (hb : x.binding = some b) (hf : b.dir = .input f) :
    (x.sampled l).input = x.input.map fun i => i.run f l := by
  unfold PinState.sampled
  rw [hb]
  dsimp only
  rw [hf]

theorem PinState.sampled_unbound (h : ∀ b f, x.binding = some b → b.dir ≠ .input f) : (x.sampled l).input = x.input := by
  unfold PinState.sampled
  split
  · next b hb =>
    split
    · next f hf => exact absurd hf (h b f hb)
    · rfl
  · rfl

end sampled

/-- Settles O5: of the state in which a request that stands is held as chosen, which differs from s in that request's flag
alone, a tick reduces each timer and samples each pin. -/
theorem tickCountsAndSamples : Obligations.TickCountsAndSamples := by
  unfold Obligations.TickCountsAndSamples
  refine ⟨fun s hr => ?_, fun s hr hd => congrArg Host.Outcome.next (if_pos ⟨hr, hd⟩), fun s board hr hd hu => ?_⟩
  · refine congrArg Host.Outcome.next (if_neg fun c => ?_)
    rw [hr] at c
    exact Bool.noConfusion c.1
  refine ⟨s.engaged.ticked board, congrArg Host.Outcome.next (if_pos ⟨hr, hd, hu⟩), ?_, fun p k => ?_, fun d => ?_,
    fun g => ?_⟩
  · rw [← s.engaged_samples]
    rfl
  · rw [State.ticked_deadline, DeadlineUnit.ticked, State.engaged_deadline]
  · rw [State.ticked_warning, WarningUnit.ticked, State.engaged_warning]
  · have hpin := s.engaged_pin g
    rw [State.ticked_pin, State.engaged_samples]
    generalize s.engaged.pins[g] = x at hpin ⊢
    have hdriver : x.driver = s.pins[g].driver := by rw [hpin]
    have hbinding : x.binding = s.pins[g].binding := by rw [hpin]
    have hinput : x.input = s.pins[g].input := by rw [hpin]
    simp only [PinState.sampled_raw]
    refine ⟨PinState.sampled_eq _ x, fun hz l hl => ?_, fun l hz hl => ?_, fun b f i hb hf hi => ?_, fun hn => ?_⟩
    · rw [hdriver, hz, hl, foundLevel_board]
    · rw [hdriver, hz, foundLevel_driven _ g hl]
    · rw [PinState.sampled_bound _ (hbinding.trans hb) hf, hinput, hi, Option.map_some, InputFilter.run]
      split
      · rfl
      · split <;> rfl
    · rw [PinState.sampled_unbound _ (by rw [hbinding]; exact hn), hinput]

/-! ## Run-outs and acceptances -/

theorem DeadlineUnit.runOut_due {u : DeadlineUnit} {x : DeadlineTimer} (h : u.timer = some x) (h0 : x.remaining = 0) :
    u.runOut = { timer := none, flag := some { slot := x.slot, token := x.token } } := by
  simp only [DeadlineUnit.runOut, h, h0, if_true]

theorem WarningUnit.runOut_due {u : WarningUnit} {x : WarningTimer} (h : u.timer = some x) (h0 : x.remaining = 0) :
    u.runOut = { timer := none, flag := some x.serial } := by
  simp only [WarningUnit.runOut, h, h0, if_true]

theorem PinState.accepts_due {x : PinState} {b : Binding} {f : InputFilter} (hb : x.binding = some b) (hf : x.input = some f)
    (hd : f.due = true) :
    x.accepts = { x with input := some { accepted := x.raw, count := 0, due := false }, flag := some b.serial } := by
  simp only [PinState.accepts, hb, hf, hd, if_true]

/-- Settles O6: each of the three rows alters its own unit, which is due. -/
theorem runOutsAndAcceptancesRaiseFlags : Obligations.RunOutsAndAcceptancesRaiseFlags := by
  unfold Obligations.RunOutsAndAcceptancesRaiseFlags
  refine ⟨fun s p k x h h0 => ?_, fun s d x h h0 => ?_, fun s g b x hb hx hd => ?_⟩
  · rw [← DeadlineUnit.runOut_due h h0]
    rfl
  · rw [← WarningUnit.runOut_due h h0]
    rfl
  · rw [← PinState.accepts_due hb hx hd]
    rfl

end Sys2Proof.Machine
end

section
/-! DEADLINE_EXPIRY_REQUEST as the engine takes it (R87), and the giving of a value as the whole effect of a request (R27, R28). -/

namespace Sys2Proof.Machine

open Sys2Proof

/-- Where no indication is owed, one change and the indications it calls for are all that follows (R28, R63). -/
theorem OneChange.sent {m : State} (hnone : ∀ q : Port, m.ports[q].inIndication = none) (i : SlotNo) (v : Byte) (n : Nat) :
    OneChange m (m.change i v n).sendIndications i v n := by
  have hfollows := Follows.change m i v n
  have howes : ∀ q, (m.change i v n).owes q ↔ PendingSetDiffers m (m.change i v n) q ∨ q ∈ ([] : List Port) := fun q => by
    rw [hfollows.acts.owes, State.owes, hnone q]
    simp
  refine ⟨?_, SlotChanged.change m i v n, fun j hj => hfollows.acts.slot j fun e => hj (List.mem_singleton.mpr e),
    hfollows.pins, fun q => ?_, .of_owes (m := m.change i v n) rfl (State.sendIndications_indication _) howes⟩
  · have hframe := m.change_frame i v n
    generalize m.change i v n = t at hframe
    rw [hframe]
    rfl
  · rw [State.sendIndications_get, hfollows.acts.ports q]

/-- Where no indication is owed, a record given a value and the indications this calls for. -/
theorem GivenValue.sent {m : State} (hnone : ∀ q : Port, m.ports[q].inIndication = none) (i : SlotNo) (v : Byte) :
    GivenValue m (m.setValue i v).sendIndications i v := by
  unfold GivenValue
  split
  · next h => rw [State.setValue_same m i v h, State.sendIndications_none m hnone]
  · next h =>
    rw [State.setValue_differs m i v h]
    exact .sent hnone i v 0

/-- While the engine sets about a request no indication is on its way (R143). -/
theorem taken_indication {s : State} {r : Taking} (h : s.choice = some r) (q : Port) :
    (s.taken r).ports[q].inIndication = none :=
  (s.taken_deliveries r q).2.1.trans ((State.quiet_spec s (State.choice_quiet s h)).2.2 q).2.1

/-- The row of the expiry the engine has chosen. -/
theorem exec_deadlineExpiryRequest {s : State} {p : Port} {k : Prio} {f : DeadlineFlag}
    (h : s.choice = some (.deadline p k f)) :
    exec (.deadlineExpiryRequest p k) s = .next ((s.taken (.deadline p k f)).expire p f).sendIndications :=
  congrArg Host.Outcome.next (State.takeInternal_takes s h (act := fun t => t.expire p f) (if_pos ⟨rfl, rfl⟩))

/-- Settles O20: an expiry is discarded or marks one entry (`State.expire_discarded`, `State.expire_marks`), and the giving of the
new value to the OVERDUE record is all that follows. -/
theorem deadlineExpiriesMarkTheEntry : Obligations.DeadlineExpiriesMarkTheEntry := by
  unfold Obligations.DeadlineExpiriesMarkTheEntry
  intro s p k f hc hl
  have hserv := s.taken_services (.deadline p k f)
  have hslots := s.taken_slots (.deadline p k f)
  have hnone := taken_indication hc
  refine ⟨_, _, exec_deadlineExpiryRequest hc, rfl, ?_⟩
  generalize s.taken (.deadline p k f) = s0 at hserv hslots hnone ⊢
  refine ⟨fun hidle => ?_, fun older e newer hlist hslot htoken hunmarked => ?_⟩
  · rw [State.expire_discarded (by rw [hserv]; exact hidle), State.sendIndications_none s0 hnone]
  · have hvalue : s.valueAt (overdueSlot p) = s0.valueAt (overdueSlot p) := valueAt_congr (by rw [hslots])
    rw [← hserv] at hlist ⊢
    rw [State.expire_marks hlist (by rw [hserv]; exact hl.slotsApart p) hslot htoken hunmarked, hvalue]
    exact GivenValue.sent (m := s0.markedAt p older newer e) hnone _ _

end Sys2Proof.Machine
end

section
/-! What a stage leaves of the reset domains (R100, R107): `Calm E` says that the Domain Table stands, that no LIVE unlocked
LEVEL user record of a HELD domain has come away from its default, and that every GUARD subscription on a system record stands
but those that E excuses. -/

namespace Sys2Proof.Machine

open Sys2Proof

/-! ## Records away from their default -/

/-- The record is LIVE, LEVEL and unlocked, of a domain that is HELD, and away from its default. -/
def Record.StraysIn (r : Record) (held : Option Dom → Bool) : Prop :=
  r.state = .live ∧ r.locked = false ∧ r.kind = .level ∧ held r.domain = true ∧ ∃ v, r.dflt = some v ∧ r.value ≠ v

/-- Slot i holds a record that R107 forbids. -/
def Strays (s : State) (i : SlotNo) : Prop := ∃ r, s.slots[i].record = some r ∧ r.StraysIn s.domainHeld

/-- From s to t no user record has come to be one that R107 forbids. -/
def NoNewStrays (s t : State) : Prop := ∀ i : SlotNo, 20 ≤ i.val → Strays t i → Strays s i

theorem heldAtDefault_iff {s : State} : HeldAtDefault s ↔ ∀ i : SlotNo, 20 ≤ i.val → ¬ Strays s i := by
  refine forall_congr' fun i => forall_congr' fun _ => ⟨fun h => ?_, fun h r hr hlive hunlocked hlevel hheld v hv => ?_⟩
  · rintro ⟨r, hr, hlive, hunlocked, hlevel, hheld, v, hv, hne⟩
    exact hne (h r hr hlive hunlocked hlevel hheld v hv)
  · by_contra hne
    exact h ⟨r, hr, hlive, hunlocked, hlevel, hheld, v, hv, hne⟩

theorem NoNewStrays.heldAtDefault {s t : State} (h : NoNewStrays s t) (hs : HeldAtDefault s) : HeldAtDefault t :=
  heldAtDefault_iff.mpr fun i hi ht => heldAtDefault_iff.mp hs i hi (h i hi ht)

theorem NoNewStrays.trans {s t u : State} (h : NoNewStrays s t) (k : NoNewStrays t u) : NoNewStrays s u :=
  fun i hi hu => h i hi (k i hi hu)

theorem domainHeld_congr {s t : State} (h : t.domains = s.domains) : t.domainHeld = s.domainHeld := by
  funext d
  simp only [State.domainHeld, h]

/-- A record is away from its default in a state where fewer domains are HELD, so it is where more are. -/
theorem Record.StraysIn.mono {r : Record} {held held' : Option Dom → Bool} (h : r.StraysIn held)
    (hsub : held r.domain = true → held' r.domain = true) : r.StraysIn held' := by
  obtain ⟨hlive, hunlocked, hlevel, hheld, hdflt⟩ := h
  exact ⟨hlive, hunlocked, hlevel, hsub hheld, hdflt⟩

/-- The user records stand and no domain has come to be HELD. -/
theorem NoNewStrays.of_domains {s t : State} (hslot : ∀ i : SlotNo, 20 ≤ i.val → t.slots[i].record = s.slots[i].record)
    (hdom : ∀ d : Dom, t.domains[d].state = .held → s.domains[d].state = .held) : NoNewStrays s t := by
  rintro i hi ⟨r, hr, hstray⟩
  refine ⟨r, (hslot i hi).symm.trans hr, hstray.mono fun hheld => ?_⟩
  unfold State.domainHeld at hheld ⊢
  split at hheld
  · exact decide_eq_true (hdom _ (of_decide_eq_true hheld))
  · cases hheld

/-! ## GUARD subscriptions on system records -/

theorem guardAt_eq (s : State) (i : SlotNo) (p : Port) : s.guardAt i p = (s.subAt i p).any (·.guard) := by
  unfold State.guardAt
  cases s.subAt i p <;> rfl

theorem guardAt_congr {s t : State} {i : SlotNo} (h : t.slots[i].record = s.slots[i].record) (p : Port) :
    t.guardAt i p = s.guardAt i p := by
  rw [guardAt_eq, subAt_congr h, guardAt_eq]

/-- From s to t every GUARD subscription on a system record stands, but those that E excuses. -/
def GuardsKept (E : SlotNo → Port → Prop) (s t : State) : Prop :=
  ∀ (i : SlotNo) (p : Port), i.val < 20 → ¬ E i p → s.guardAt i p = true → t.guardAt i p = true

/-! ## What a stage keeps -/

/-- From s to t the Domain Table stands, no record has come away from its default under a HELD domain, and the GUARD
subscriptions on system records stand but those that E excuses. -/
structure Calm (E : SlotNo → Port → Prop) (s t : State) : Prop where
  domains : t.domains = s.domains
  strays : NoNewStrays s t
  guards : GuardsKept E s t

variable {E : SlotNo → Port → Prop}

theorem Calm.refl (s : State) : Calm E s s := ⟨rfl, fun _ _ h => h, fun _ _ _ _ h => h⟩

theorem Calm.trans {s t u : State} (h : Calm E s t) (k : Calm E t u) : Calm E s u :=
  ⟨k.domains.trans h.domains, h.strays.trans k.strays, fun i p hi hE hs => k.guards i p hi hE (h.guards i p hi hE hs)⟩

/-- An excuse that is not used, since there was no GUARD or it stands again. -/
theorem Calm.unexcused {s t : State} {i : SlotNo} {p : Port} (h : Calm (fun j q => j = i ∧ q = p) s t)
    (hguard : s.guardAt i p = true → t.guardAt i p = true) : Calm E s t := by
  refine ⟨h.domains, h.strays, fun j q hj _ hs => ?_⟩
  by_cases hjq : j = i ∧ q = p
  · obtain ⟨rfl, rfl⟩ := hjq
    exact hguard hs
  · exact h.guards j q hj hjq hs

theorem Calm.foldl {α : Type} {op : State → α → State} (l : List α) (h : ∀ s, ∀ a ∈ l, Calm E s (op s a)) (s : State) :
    Calm E s (l.foldl op s) := by
  induction l generalizing s with
  | nil => exact .refl s
  | cons a l ih => exact (h s a List.mem_cons_self).trans (ih (fun t b hb => h t b (List.mem_cons_of_mem _ hb)) _)

theorem Calm.of_same {s t : State} (hslots : t.slots = s.slots) (hdom : t.domains = s.domains) : Calm E s t :=
  ⟨hdom, .of_domains (fun i _ => by rw [hslots]) fun d h => by rwa [hdom] at h,
    fun i p _ _ h => (guardAt_congr (by rw [hslots]) p).trans h⟩

/-- One slot alone is touched. -/
theorem Calm.of_slot {s t : State} {i : SlotNo} (hdom : t.domains = s.domains)
    (hother : ∀ j : SlotNo, j ≠ i → t.slots[j].record = s.slots[j].record)
    (hstray : ∀ r, t.slots[i].record = some r → r.StraysIn s.domainHeld → Strays s i)
    (hguard : i.val < 20 → ∀ p, ¬ E i p → s.guardAt i p = true → t.guardAt i p = true) : Calm E s t := by
  refine ⟨hdom, fun j hj ⟨r, hr, hs⟩ => ?_, fun j p hj hE hs => ?_⟩
  · rw [domainHeld_congr hdom] at hs
    by_cases hji : j = i
    · subst hji
      exact hstray r hr hs
    · exact ⟨r, (hother j hji).symm.trans hr, hs⟩
  · by_cases hji : j = i
    · subst hji
      exact hguard hj p hE hs
    · exact (guardAt_congr (hother j hji) p).trans hs

/-! ## Operations on one record -/

/-- The record in slot i may take the value v: it is no user record, or its domain is not HELD, or v is its default or the
value it has. -/
def MayTake (s : State) (i : SlotNo) (v : Byte) : Prop :=
  20 ≤ i.val → ∀ r, s.slots[i].record = some r → r.kind = .level → s.domainHeld r.domain = true →
    v = r.value ∨ ∀ w, r.dflt = some w → v = w

theorem MayTake.system {s : State} {i : SlotNo} (h : i.val < 20) (v : Byte) : MayTake s i v :=
  fun hi => absurd h (Nat.not_lt.mpr hi)

theorem MayTake.free {s : State} {i : SlotNo} (h : s.heldAt i = false) (v : Byte) : MayTake s i v := by
  intro _ r hr _ hheld
  rw [State.heldAt, hr] at h
  exact absurd (h.symm.trans hheld) Bool.false_ne_true

theorem Sub.afterChange_guard (u : Sub) (serving : Bool) (old new : Byte) (n : Nat) :
    (u.afterChange serving old new n).guard = u.guard := by
  rw [u.afterChange_settings]

theorem change_guardAt (s : State) (i j : SlotNo) (v : Byte) (n : Nat) (p : Port) :
    (s.change i v n).guardAt j p = s.guardAt j p := by
  by_cases hj : j = i
  · subst hj
    rw [guardAt_eq, guardAt_eq, State.subAt, State.subAt, State.change_record, if_pos rfl]
    cases s.slots[j].record with
    | none => rfl
    | some r =>
      simp only [Option.map_some, Record.changed, ofFn_get]
      cases r.subs[p] with
      | none => rfl
      | some u => exact u.afterChange_guard _ _ _ _
  · exact guardAt_congr (by rw [State.change_record, if_neg hj]) p

theorem Calm.change {s : State} {i : SlotNo} {v : Byte} (h : MayTake s i v) (n : Nat) : Calm E s (s.change i v n) := by
  refine ⟨s.change_domains i v n, ?_, fun j p _ _ hs => by rwa [change_guardAt]⟩
  rintro j hj ⟨r', hr', hstray⟩
  rw [domainHeld_congr (s.change_domains i v n)] at hstray
  rw [State.change_record] at hr'
  split at hr'
  · next hji =>
    subst hji
    obtain ⟨r, hr, rfl⟩ := Option.map_eq_some_iff.mp hr'
    obtain ⟨hlive, hunlocked, hlevel, hheld, w, hw, hne⟩ := hstray
    obtain hv | hv := h hj r hr hlevel hheld
    · exact ⟨r, hr, hlive, hunlocked, hlevel, hheld, w, hw, fun hrw => hne (hv.trans hrw)⟩
    · exact absurd (hv w hw) hne
  · exact ⟨r', hr', hstray⟩

theorem Calm.setValue {s : State} {i : SlotNo} {v : Byte} (h : MayTake s i v) : Calm E s (s.setValue i v) := by
  rw [State.setValue_eq]
  split
  · exact .refl s
  · exact .change h 0

/-- What of the record R107 looks at, and its subscriptions, stand, or the record has come to be locked. -/
theorem Calm.modRecord (s : State) (i : SlotNo) (f : Record → Record) (hsubs : ∀ r, (f r).subs = r.subs)
    (hstray : ∀ r held, (f r).StraysIn held → r.StraysIn held) : Calm E s (s.modRecord i f) := by
  refine .of_slot rfl (fun j hj => by rw [State.modRecord_record, if_neg hj]) (fun r' hr' hs => ?_) fun _ p _ hs => ?_
  · rw [State.modRecord_record, if_pos rfl] at hr'
    obtain ⟨r, hr, rfl⟩ := Option.map_eq_some_iff.mp hr'
    exact ⟨r, hr, hstray r _ hs⟩
  · rw [guardAt_eq, State.subAt] at hs ⊢
    rw [State.modRecord_record, if_pos rfl]
    cases hr : s.slots[i].record with
    | none => rw [hr] at hs; exact hs
    | some r =>
      rw [hr] at hs
      simpa only [Option.map_some, hsubs] using hs

theorem Calm.owned (s : State) (i : SlotNo) (o : Owner) : Calm E s (s.modRecord i fun r => { r with owner := o }) :=
  .modRecord s i _ (fun _ => rfl) fun _ _ h => h

theorem Calm.locked (s : State) (i : SlotNo) : Calm E s (s.modRecord i fun r => { r with locked := true }) :=
  .modRecord s i _ (fun _ => rfl) fun _ _ ⟨_, h, _⟩ => Bool.noConfusion h

/-- A subscription altered that E excuses, or whose GUARD stands. -/
theorem Calm.updSub {s : State} {i : SlotNo} {p : Port} {f : Option Sub → Option Sub}
    (h : E i p ∨ ((s.subAt i p).any (·.guard) = true → (f (s.subAt i p)).any (·.guard) = true)) :
    Calm E s (s.updSub i p f) := by
  refine .of_slot (s.updSub_domains i p f) (fun j hj => by rw [State.updSub_record, if_neg hj]) (fun r' hr' hs => ?_)
    fun _ q hE hs => ?_
  · rw [State.updSub_record, if_pos rfl] at hr'
    obtain ⟨r, hr, rfl⟩ := Option.map_eq_some_iff.mp hr'
    exact ⟨r, hr, hs⟩
  · rw [guardAt_eq] at hs ⊢
    rw [State.updSub_subAt]
    split
    · next hc =>
      obtain ⟨-, -, rfl⟩ := hc
      exact h.resolve_left hE hs
    · exact hs

theorem Sub.evaluated_guard (u : Sub) (v : Byte) : (u.evaluated v).guard = u.guard := by
  rw [Sub.evaluated_eq, Sub.settled]
  split <;> rfl

theorem Calm.heldEvaluation (s : State) (i : SlotNo) (p : Port) : Calm E s (s.heldEvaluation i p) := by
  refine .updSub (.inr fun h => ?_)
  rw [Option.any_map]
  simpa only [Function.comp_def, Sub.evaluated_guard] using h

/-- A slot freed of a record without subscriptions. -/
theorem Calm.freeSlot {s : State} {i : SlotNo} (h : s.noSubsAt i = true) : Calm E s (s.freeSlot i) := by
  refine .of_slot (s.freeSlot_domains i) (fun j hj => by rw [State.freeSlot_record, if_neg hj]) (fun r hr _ => ?_)
    fun _ p _ hs => ?_
  · rw [State.freeSlot_record, if_pos rfl] at hr
    cases hr
  · rw [guardAt_eq, State.noSubsAt_subAt h] at hs
    cases hs

theorem Calm.removeDraining {s : State} {i : SlotNo} {p : Port} (h : E i p) : Calm E s (s.removeDraining i p) := by
  rw [State.removeDraining_eq]
  split
  · next hn => exact .trans (.updSub (.inl h)) (.freeSlot hn)
  · exact .updSub (.inl h)

/-- What a retirement leaves of a user record is not LIVE (R16). -/
theorem Calm.retireRecord {s : State} {i : SlotNo} {r : Record} (hi : 20 ≤ i.val) (hr : s.slots[i].record = some r) :
    Calm E s (s.retireRecord i) := by
  refine .of_slot (by rw [s.retireRecord_frame i r hr]) (fun j hj => by rw [s.retireRecord_other hr hj]) (fun r' hr' hs => ?_)
    fun hlt => absurd hlt (Nat.not_lt.mpr hi)
  obtain ⟨hlive, -⟩ := hs
  rw [State.retireRecord_slot s i r hr, if_pos rfl] at hr'
  split at hr'
  · cases hr'
  · cases hr'
    cases hlive

theorem Calm.unbindFrom (s : State) (g : Pin) (b : Binding) : Calm E s (s.unbindFrom g b) := by
  have hunbound : Calm E s (s.modPin g PinState.unbound) := .of_same rfl rfl
  unfold State.unbindFrom
  split
  · exact hunbound.trans (.owned _ b.slot .nobody)
  · exact hunbound

theorem Calm.modService (s : State) (p : Port) (f : Service → Service) : Calm E s (s.modService p f) :=
  .of_same (State.modService_slots s p f) (State.modService_domains s p f)

theorem Calm.modPin (s : State) (g : Pin) (f : PinState → PinState) : Calm E s (s.modPin g f) := .of_same rfl rfl

theorem Calm.modPort (s : State) (p : Port) (f : PortState → PortState) : Calm E s (s.modPort p f) := .of_same rfl rfl

theorem Calm.owe (s : State) (p : Port) : Calm E s (s.owe p) := .modPort s p _

end Sys2Proof.Machine
end

section
/-! The turns of the reset domains (R94 to R106): what a sweep, the end of a warning and a departure leave of the records of a
HELD domain and of the GUARD subscriptions, and the stages that a row is made of. -/

namespace Sys2Proof.Machine

open Sys2Proof

/-! ## A domain swept -/

/-- The user slots have been swept and the entry of d set, and the DOMAIN record is given 2, at whatever the ports are (R97). -/
theorem SweptInto.of_swept {s m : State} {d : Dom} {x : DomainEntry}
    (hrest : m = { s with slots := m.slots, pins := m.pins, ports := m.ports, domains := s.domains.set d x })
    (hfollows : Follows (fun i => 20 ≤ i.val) s m) (hswept : Swept s m d) (ports : Vector PortState 6) :
    SweptInto { s with ports := ports } { m.setValue (domainSlot d) 2#8 with ports := ports } d x := by
  have hgiven := Follows.setValue m (domainSlot d) 2#8
  have hall := hfollows.trans hgiven fun i hi he => not_user_domainSlot (he ▸ hi)
  have hserv : m.services = s.services := by rw [hrest]
  have hvalue := (SlotGiven.setValue m (domainSlot d) 2#8).between (hfollows.acts.slot _ not_user_domainSlot) hserv rfl
  have hlast := setValue_rest m (domainSlot d) 2#8
  generalize m.setValue (domainSlot d) 2#8 = t at *
  refine ⟨?_, hswept.of_slots fun i hi => hgiven.acts.slot i fun he => not_user_domainSlot (he ▸ hi), hvalue,
    fun j hj hne => hall.acts.slot j fun hc => hc.elim (Nat.not_le.mpr hj) hne, hall.pins⟩
  rw [hlast, hrest]

/-- A reset at once: d is swept and HELD (R96, R97). -/
theorem resetNow_sweptInto (s : State) (d : Dom) (ports : Vector PortState 6) :
    SweptInto { s with ports := ports } { (s.resetNow d).state with ports := ports } d
      { s.domains[d] with state := .held } := by
  have hfollows := Follows.sweep s d
  have hswept := sweep_swept s d
  have hrest := sweep_rest s d
  unfold State.resetNow State.enterHeld
  dsimp only
  generalize (s.sweep d).1 = m at *
  have hheld : Follows (fun _ => False) m (m.modDomain d fun x => { x with state := .held }) := .of_domains rfl
  refine .of_swept ?_ ((hfollows.trans hheld fun _ _ => id).mono fun _ hi => hi.elim id False.elim)
    (hswept.of_slots fun _ _ => rfl) ports
  rw [hrest]
  rfl

section sweptInto
variable {s m : State} {d : Dom} {x : DomainEntry}

theorem SweptInto.domain (h : SweptInto s m d x) (e : Dom) : m.domains[e] = if e = d then x else s.domains[e] := by
  obtain ⟨hrest, -⟩ := h
  rw [hrest]
  exact set_get s.domains d e x

/-- A record that the sweep passes over is at its default, or is none that R107 speaks of (R103). -/
theorem sweptTo_strays {i : SlotNo} (hi : 20 ≤ i.val) {r : Record} (hr : s.slots[i].record = some r)
    {held : Option Dom → Bool} (h : r.StraysIn held) (hd : r.domain = some d) : s.sweptTo d i ≠ none := by
  obtain ⟨hlive, hunlocked, hlevel, -, v, hv, hne⟩ := h
  simp only [sweptTo_user s d hi, hr, Option.bind_some, Record.sweepTarget, hlive, hd, hlevel, hunlocked, hv, hne, and_self,
    if_true, if_false, ne_eq, reduceCtorEq, not_false_eq_true]

/-- What the sweep gives a record is its default (R103). -/
theorem sweptTo_dflt {i : SlotNo} (hi : 20 ≤ i.val) {v : Byte} (h : s.sweptTo d i = some v) :
    ∃ r, s.slots[i].record = some r ∧ r.dflt = some v := by
  rw [sweptTo_user s d hi] at h
  obtain ⟨r, hr, hv⟩ := Option.bind_eq_some_iff.mp h
  obtain ⟨-, -, -, -, hdflt, -⟩ := Record.sweepTarget_some hv
  exact ⟨r, hr, hdflt⟩

/-- A domain swept into HELD has no record away from its default, and the others have none more (R103, R107). -/
theorem SweptInto.noNewStrays (h : SweptInto s m d x) : NoNewStrays s m := by
  rintro i hi ⟨r', hr', hstray⟩
  have hdomain := h.domain
  obtain ⟨-, hswept, -⟩ := h
  have hslot := hswept i hi
  cases hto : s.sweptTo d i with
  | some v =>
    obtain ⟨r, hr, hdflt⟩ := sweptTo_dflt hi hto
    rw [hto] at hslot
    simp only [SlotChanged, hr] at hslot
    rw [hslot, Option.some.injEq] at hr'
    subst hr'
    obtain ⟨-, -, -, -, w, hw, hne⟩ := hstray
    exact absurd (Option.some.inj (hdflt.symm.trans hw)) hne
  | none =>
    rw [hto] at hslot
    rw [hslot] at hr'
    have hother : r'.domain ≠ some d := fun hd => sweptTo_strays hi hr' hstray hd hto
    refine ⟨r', hr', hstray.mono fun hheld => ?_⟩
    cases hd : r'.domain with
    | none => rw [hd] at hheld; exact hheld
    | some e =>
      rw [hd] at hheld hother
      rw [State.domainHeld, hdomain, if_neg fun he => hother (congrArg some he)] at hheld
      exact hheld

theorem SlotGiven.guardAt {t : State} {i : SlotNo} {v : Byte} (h : SlotGiven s t i v) (p : Port) :
    t.guardAt i p = s.guardAt i p := by
  unfold SlotGiven at h
  split at h
  · exact guardAt_congr (by rw [h]) p
  · unfold SlotChanged at h
    cases hr : s.slots[i].record with
    | none =>
      rw [hr] at h
      exact guardAt_congr (by rw [h]) p
    | some r =>
      rw [hr] at h
      rw [guardAt_eq, guardAt_eq, State.subAt, h, subAt_of_record hr]
      simp only [ofFn_get, Option.any_map, Sub.afterChange_guard]

/-- A sweep and the giving of a value to the DOMAIN record move no GUARD of a system record. -/
theorem SweptInto.guardsKept (h : SweptInto s m d x) (E : SlotNo → Port → Prop) : GuardsKept E s m := by
  obtain ⟨-, -, hgiven, hothers, -⟩ := h
  intro i p hi _ hs
  by_cases hid : i = domainSlot d
  · subst hid
    exact (hgiven.guardAt p).trans hs
  · exact (guardAt_congr (by rw [hothers i hi hid]) p).trans hs

end sweptInto

/-! ## The end of a warning and a departure -/

section depart
variable (s : State) (d : Dom) (p : Port)

theorem WarningEnds.noNewStrays {s m : State} {d : Dom} (h : WarningEnds s m d) : NoNewStrays s m := by
  unfold WarningEnds at h
  exact (NoNewStrays.of_domains (fun _ _ => rfl) fun _ h => h).trans h.noNewStrays

theorem WarningEnds.guardsKept {s m : State} {d : Dom} (h : WarningEnds s m d) (E : SlotNo → Port → Prop) :
    GuardsKept E s m := by
  unfold WarningEnds at h
  intro i p hi hE hs
  exact h.guardsKept E i p hi hE ((guardAt_congr rfl p).trans hs)

/-- The end of a warning with the ports set aside, as `endWarning_warningEnds` gives it, speaks of the end itself. -/
theorem endWarning_noNewStrays : NoNewStrays s (s.endWarning d).1 := by
  have hends := endWarning_warningEnds s d s.ports
  generalize (s.endWarning d).1 = m at hends ⊢
  exact hends.noNewStrays.trans (.of_domains (fun _ _ => rfl) fun _ h => h)

theorem endWarning_guardsKept (E : SlotNo → Port → Prop) : GuardsKept E s (s.endWarning d).1 := by
  have hends := endWarning_warningEnds s d s.ports
  generalize (s.endWarning d).1 = m at hends ⊢
  intro i p hi hE hs
  exact (guardAt_congr rfl p).trans (hends.guardsKept E i p hi hE hs)

theorem modDomain_noNewStrays {f : DomainEntry → DomainEntry}
    (hf : (f s.domains[d]).state = .held → s.domains[d].state = .held) : NoNewStrays s (s.modDomain d f) := by
  refine .of_domains (fun _ _ => rfl) fun e he => ?_
  rw [State.modDomain_get] at he
  split at he
  · next hed => rw [hed]; exact hf he
  · exact he

theorem modDomain_guardsKept (f : DomainEntry → DomainEntry) (E : SlotNo → Port → Prop) : GuardsKept E s (s.modDomain d f) :=
  fun _ p _ _ hs => (guardAt_congr rfl p).trans hs

theorem GuardsKept.trans {E : SlotNo → Port → Prop} {s t u : State} (h : GuardsKept E s t) (k : GuardsKept E t u) :
    GuardsKept E s u :=
  fun i p hi hE hs => k i p hi hE (h i p hi hE hs)

theorem depart_noNewStrays : NoNewStrays s (s.depart d p) := by
  have hleft : NoNewStrays s (s.modDomain d fun x => { x with awaited := x.awaited.set p false }) :=
    modDomain_noNewStrays s d id
  rw [depart_eq]
  split
  · exact hleft.trans (endWarning_noNewStrays _ d)
  · split
    · exact hleft
    · exact fun _ _ h => h

theorem depart_guardsKept (E : SlotNo → Port → Prop) : GuardsKept E s (s.depart d p) := by
  have hleft := modDomain_guardsKept s d (fun x => { x with awaited := x.awaited.set p false }) E
  rw [depart_eq]
  split
  · exact hleft.trans (endWarning_guardsKept _ d E)
  · split
    · exact hleft
    · exact fun _ _ _ _ h => h

end depart

end Sys2Proof.Machine
end

section
/-! The stages every row is made of, as far as the reset domains go: `Turn` lists them, each calm but for what it names, and
every request and every command is a run of turns (R94 to R106). -/

namespace Sys2Proof.Machine

open Sys2Proof

/-! ## Turns -/

/-- What a row can do to the reset domains in one stage: nothing; the loss of a GUARD with the departure that follows it; the
loss of p's GUARDs with its departure from every awaited set; the end of a warning, a reset at once, the start and the
cancelling of a warning, and the return of a HELD domain to RUN. -/
inductive Turn : State → State → Prop where
  | calm {s t : State} (h : Calm (fun _ _ => False) s t) : Turn s t
  | departs {s m : State} (i : SlotNo) (p : Port) (h : Calm (fun j q => j = i ∧ q = p) s m) : Turn s (m.departOn i p)
  | leaves {s m : State} (p : Port) (h : Calm (fun _ q => q = p) s m) : Turn s (m.leaveAwaited p)
  | ends {s : State} (d : Dom) : Turn s (s.endWarning d).1
  | resets {s : State} (d : Dom) (h : s.domains[d].state = .run) : Turn s (s.resetNow d).state
  | warns {s : State} (d : Dom) (timeout : Byte) : Turn s (s.startWarning d timeout)
  | cancels {s : State} (d : Dom) : Turn s (s.cancelWarning d)
  | runs {s : State} (d : Dom) (h : s.domains[d].state = .held) :
      Turn s ((s.modDomain d fun x => { x with state := .run }).setValue (domainSlot d) (domStateByte .run))

/-- A run of turns. -/
def Turns : State → State → Prop := Relation.ReflTransGen Turn

theorem Turns.refl (s : State) : Turns s s := Relation.ReflTransGen.refl
theorem Turns.trans {s t u : State} (h : Turns s t) (k : Turns t u) : Turns s u := Relation.ReflTransGen.trans h k
theorem Turn.turns {s t : State} (h : Turn s t) : Turns s t := .single h
theorem Calm.turns {s t : State} (h : Calm (fun _ _ => False) s t) : Turns s t := (Turn.calm h).turns

/-- What holds and every turn keeps holds after a run of turns. -/
theorem Turns.keep {P : State → Prop} (hturn : ∀ s t, Turn s t → P s → P t) {s t : State} (h : Turns s t) (hs : P s) : P t := by
  induction h with
  | refl => exact hs
  | tail _ hlast ih => exact hturn _ _ hlast ih

variable {E : SlotNo → Port → Prop}

/-! ## Internal requests -/

section requests
variable (s : State) (p : Port)

theorem Calm.entryGone (i : SlotNo) : Calm E s ((s.cancelFor p i).removeEntry p i) := by
  have hcancel : Calm E s (s.cancelFor p i) := by
    rw [State.cancelFor_frame]
    exact .of_same rfl rfl
  exact hcancel.trans (.modService _ p _)

theorem Calm.dropEntry (e : Entry) : Calm (fun _ q => q = p) s (State.dropEntry p s e) := by
  unfold State.dropEntry
  dsimp only
  split
  · exact .trans (.entryGone s p e.slot) (.removeDraining rfl)
  · exact .entryGone s p e.slot

theorem Calm.settleSub (i : SlotNo) : Calm (fun _ q => q = p) s (State.settleSub p s i) := by
  rcases settleSub_cases p s i with h | ⟨f, h⟩
  · rw [h]
    exact .refl s
  · rw [h]
    exact .updSub (.inl rfl)

/-- Stages 1 to 3 of a teardown take away subscriptions of p alone (R152 to R154). -/
theorem Calm.attended : Calm (fun _ q => q = p) s (s.attended p) := by
  have hdropped : Calm (fun _ q => q = p) s (s.dropService p) := .foldl _ (fun t e _ => .dropEntry t p e) s
  have hsettled : Calm (fun _ q => q = p) (s.dropService p) ((s.dropService p).settleSubs p) :=
    .foldl (List.finRange 128) (fun t i _ => .settleSub t p i) _
  unfold State.attended State.resetAttention
  exact (hdropped.trans hsettled).trans (.modService _ p _)

/-- The value its orphan policy leaves in a record is its default or the one it has (R156). -/
theorem MayTake.orphanValue {s : State} {i : SlotNo} {r : Record} (hr : s.slots[i].record = some r) :
    MayTake (s.modRecord i Record.disowned) i r.orphanValue := by
  intro _ r' hr' _ _
  rw [State.modRecord_record, if_pos rfl, hr, Option.map_some, Option.some.injEq] at hr'
  subst hr'
  unfold Record.orphanValue
  split
  · exact .inr fun w hw => by rw [show r.dflt = some w from hw, Option.getD_some]
  · exact .inl rfl

theorem Calm.orphanRecords : Calm E s (s.orphanRecords p) := by
  refine .foldl userSlots (fun t i hi => ?_) s
  rcases orphanSlot_cases p t i with h | ⟨r, hr, h | h⟩
  · rw [h]
    exact .refl t
  · rw [h]
    exact .retireRecord (mem_userSlots.mp hi) hr
  · rw [h]
    exact .trans (.owned t i .nobody) (.setValue (.orphanValue hr))

theorem Calm.setOverdue (v : Byte) : Calm E s (s.setValue (overdueSlot p) v) :=
  .setValue (.system (by rw [overdueSlot_val]; omega) v)

theorem Calm.setLink (v : Byte) : Calm E s (s.setValue (linkSlot p) v) :=
  .setValue (.system (Nat.lt_of_lt_of_le p.isLt (by decide)) v)

theorem Calm.setDomain (d : Dom) (v : Byte) : Calm E s (s.setValue (domainSlot d) v) :=
  .setValue (.system (by rw [domainSlot_val]; omega) v)

theorem Calm.completeTeardown : Calm E s (s.completeTeardown p) := .of_same rfl rfl

theorem Turns.teardown : Turns s (s.teardown p) := by
  have hleft : Turns s (s.departed p) := (Turn.leaves p (.attended s p)).turns
  refine hleft.trans ?_
  rw [teardown_eq]
  unfold State.tornDown State.settleSystemRecords State.orphaned
  generalize s.departed p = m
  exact (((Calm.orphanRecords m p).trans (.trans (.setOverdue _ p _) (.setLink _ p _))).trans (.completeTeardown _ p)).turns

theorem Calm.expire (f : DeadlineFlag) : Calm E s (s.expire p f) := by
  unfold State.expire
  split
  · exact .trans (.modService s p _) (.setOverdue _ p _)
  · exact .refl s

theorem Turns.warningExpires (d : Dom) (serial : Byte) : Turns s (s.warningExpires d serial) := by
  unfold State.warningExpires
  split
  · exact (Turn.ends d).turns
  · exact .refl s

theorem Calm.pinUpdates (g : Pin) (serial : Byte) : Calm E s (s.pinUpdates g serial) := by
  unfold State.pinUpdates
  split
  · split
    · exact .refl s
    · split
      · exact .refl s
      · next hfree => exact .setValue (.free (Bool.eq_false_of_not_eq_true hfree) _)
  · exact .refl s

theorem Turns.carryOutRequest (r : Taking) : Turns s (s.carryOutRequest r) := by
  cases r with
  | teardown p => exact .teardown s p
  | notice p v => exact (Calm.setLink s p _).turns
  | deadline p k f => exact (Calm.expire s p f).turns
  | warning d serial => exact .warningExpires s d serial
  | pinUpdate g serial => exact (Calm.pinUpdates s g serial).turns
  | command p q => exact .refl s

end requests

/-! ## Commands that leave the reset domains alone -/

section commands
variable (s : State) (p : Port)

/-- A DECLARE into a HELD domain is refused (R12). -/
theorem Calm.declareCommand (id : Half) (kind init dflt dom policy : Byte) :
    Calm E s (s.declare p id kind init dflt dom policy).state := by
  unfold State.declare
  refine refusedIf_keeps (.refl s) fun _ => ?_
  split
  · refine refusedIf_keeps (.refl s) fun _ => refusedIf_keeps (.refl s) fun hheld => ?_
    split
    · exact .refl s
    · next i hi =>
      refine .of_slot (i := i) rfl (fun j hj => ?_) (fun r hr hstray => ?_) fun hlt =>
        absurd hlt (Nat.not_lt.mpr (mem_userSlots.mp (List.mem_of_find?_eq_some hi)))
      · dsimp only
        rw [set_get, if_neg hj]
      · obtain ⟨-, -, -, hin, -⟩ := hstray
        dsimp only at hr
        rw [set_get, if_pos rfl, Option.some.injEq] at hr
        rw [← hr] at hin
        exact absurd hin hheld
  · exact .refl s

theorem Calm.retireCommand (h : Handle) : Calm E s (s.retire p h).state := by
  refine withHandle_keeps (.refl s) fun i r hr => refusedIf_keeps (.refl s) fun hi => refusedIf_keeps (.refl s) fun _ => ?_
  split
  · dsimp only
    exact .retireRecord (not_isSystemSlot hi) hr
  · exact .refl s

theorem Calm.claim (h : Handle) : Calm E s (s.claim p h).state := by
  refine withHandle_keeps (.refl s) fun i r _ => refusedIf_keeps (.refl s) fun _ => refusedIf_keeps (.refl s) fun _ => ?_
  split
  · exact .owned s i _
  · split <;> exact .refl s
  · exact .refl s
  · exact .refl s

theorem Calm.lookup (id : Half) : Calm E s (s.lookup id).state := by
  unfold State.lookup
  split
  · exact .refl s
  · split <;> exact .refl s

theorem Calm.lock (h : Handle) : Calm E s (s.lock p h).state :=
  controlOnly_keeps (.refl s) (withHandle_keeps (.refl s) fun i _ _ => refusedIf_keeps (.refl s) fun _ =>
    refusedIf_keeps (.refl s) fun _ => .locked s i)

/-- A write that nothing refuses is to no record of a HELD domain (R37). -/
theorem MayTake.written {s : State} {i : SlotNo} {k : Kind} {r : Record} (hr : s.slots[i].record = some r)
    (h : s.writeRefusal p k r = none) (v : Byte) : MayTake s i v := by
  obtain ⟨-, -, -, hfree⟩ := State.writeRefusal_none h
  exact .free (by rw [State.heldAt, hr]; exact hfree) v

theorem Calm.writeValue {s : State} {i : SlotNo} (r : Record) {v : Byte} (h : MayTake s i v) :
    Calm E s (s.writeValue i r v).state := by
  unfold State.writeValue
  split
  · exact .refl s
  · exact .change h 0

theorem Calm.set (h : Handle) (v : Byte) : Calm E s (s.set p h v).state := by
  refine withHandle_keeps (.refl s) fun i r hr => refusedIf_keeps (.refl s) fun _ => ?_
  split
  · exact .refl s
  · next hw => exact .writeValue r (.written p hr hw v)

theorem Calm.setIf (h : Handle) (e : Half) (v : Byte) : Calm E s (s.setIf p h e v).state := by
  refine withHandle_keeps (.refl s) fun i r hr => refusedIf_keeps (.refl s) fun _ => ?_
  split
  · exact .refl s
  · next hw =>
    split
    · exact .refl s
    · exact .writeValue r (.written p hr hw v)

theorem Calm.raise (h : Handle) (n : Byte) : Calm E s (s.raise p h n).state := by
  refine withHandle_keeps (.refl s) fun i r hr => refusedIf_keeps (.refl s) fun _ => refusedIf_keeps (.refl s) fun _ => ?_
  split
  · exact .refl s
  · next hw => exact .change (.written p hr hw _) _

/-- What an ACQUIRE alters of its subscription is the mark (R67). -/
theorem Calm.takeIntoService (i : SlotNo) (u : Sub) (token : Byte) : Calm E s (s.takeIntoService p i u token) := by
  have hmarked : ∀ t : State, Calm E t (t.updSub i p fun o => o.map fun u => { u with mark := none }) := fun t =>
    .updSub (.inr fun hg => by rw [Option.any_map]; exact hg)
  have hstarted : ∀ t : State, Calm E t (t.startDeadline p u.priority i token u.cls) := fun t => by
    unfold State.startDeadline
    split
    · exact .refl t
    · exact .of_same rfl rfl
  exact ((((Calm.modService s p _).trans (hmarked _)).trans (.modService _ p _)).trans (hstarted _)).trans (.owe _ p)

theorem Calm.acquire : Calm E s (s.acquire p).state := by
  rcases s.acquire_cases p with h | ⟨i, r, u, -, -, h⟩
  · rw [h]
    exact .refl s
  · rw [h]
    exact .takeIntoService s p i u _

theorem Calm.setThreshold (t : Byte) : Calm E s (s.setThreshold p t).state := by
  unfold State.setThreshold
  split
  · exact .trans (.modService s p _) (.owe _ p)
  · exact .refl s

theorem Calm.evict (port : Byte) : Calm E s (s.evict p port).state := by
  refine controlOnly_keeps (.refl s) ?_
  split
  · exact .refl s
  · exact refusedIf_keeps (.refl s) fun _ => refusedIf_keeps (.refl s) fun _ => .of_same rfl rfl

theorem Calm.unbindPin (pin : Byte) : Calm E s (s.unbindPin p pin).state := by
  refine controlOnly_keeps (.refl s) ?_
  split
  · exact .refl s
  · next g _ =>
    split
    · exact .refl s
    · next b _ => exact .unbindFrom s g b

/-- A level bound is applied where the domain is not HELD (R114). -/
theorem Calm.bindInput (g : Pin) (i : SlotNo) (f : Fin 16) (a : Level) (found : Option Level) :
    Calm E s (s.bindInput g i f a found) := by
  have hbound : Calm E s { s.inputBinding g i f a (foundLevel s.samples g found .highZ) with samples := s.samples + 1 } :=
    .trans (.trans (.modPin s g _) (.owned _ i (.pin g))) (.of_same rfl rfl)
  unfold State.bindInput
  dsimp only
  split
  · exact hbound
  · next hfree => exact hbound.trans (.setValue (.free (Bool.eq_false_of_not_eq_true hfree) _))

theorem Calm.bindPin (found : Option Level) (pin : Byte) (h : Handle) (dir active filter : Byte) :
    Calm E s (s.bindPin p found pin h dir active filter).state := by
  refine controlOnly_keeps (.refl s) (withHandle_keeps (.refl s) fun i r _ => refusedIf_keeps (.refl s) fun _ => ?_)
  split
  · split
    · exact .refl s
    · dsimp only
      split
      · exact .bindInput s _ i _ _ found
      · exact .modPin s _ _
  · exact .refl s

theorem Calm.pinQuery (pin : Byte) : Calm E s (s.pinQuery pin).state := by
  unfold State.pinQuery
  split <;> exact .refl s

end commands

/-! ## Commands that can take a GUARD away -/

section guards
variable (s : State) (p : Port)

/-- A subscription of p on slot i was replaced or is gone: either it carried no GUARD to lose, or a departure follows. -/
theorem Turns.departsIf {s m : State} {i : SlotNo} {p : Port} (h : Calm (fun j q => j = i ∧ q = p) s m) (c : Prop)
    [Decidable c] (hc : ¬ c → s.guardAt i p = true → m.guardAt i p = true) : Turns s (if c then m.departOn i p else m) := by
  split
  · exact (Turn.departs i p h).turns
  · next hn => exact (h.unexcused (hc hn)).turns

theorem guardAt_of_sub {s : State} {i : SlotNo} {p : Port} {r : Record} (hr : s.slots[i].record = some r) :
    s.guardAt i p = r.subs[p].any (·.guard) := by
  rw [guardAt_eq, subAt_of_record hr]

/-- The subscription that comes to stand carries GUARD as it asks. -/
theorem createSub_guardAt {s : State} {i : SlotNo} {r : Record} (hr : s.slots[i].record = some r) (p : Port) (new : Sub) :
    (s.createSub i p new).guardAt i p = new.guard := by
  have hplaced : (s.updSub i p fun _ => some new).subAt i p = some new := by
    rw [State.updSub_subAt, if_pos ⟨by rw [hr]; rfl, rfl, rfl⟩]
  unfold State.createSub State.heldEvaluation
  generalize s.updSub i p (fun _ => some new) = t at hplaced ⊢
  rw [guardAt_eq, State.updSub_subAt, hplaced]
  split
  · exact new.evaluated_guard _
  · rfl

theorem Calm.createSub (i : SlotNo) (new : Sub) : Calm (fun j q => j = i ∧ q = p) s (s.createSub i p new) :=
  .trans (.updSub (.inl ⟨rfl, rfl⟩)) (.heldEvaluation _ i p)

theorem Turns.subscribe (h : Handle) (prio cond m mode cls attrs : Byte) :
    Turns s (s.subscribe p h prio cond m mode cls attrs).state := by
  refine withHandle_keeps (.refl s) fun i r hr => ?_
  split
  · exact .refl s
  · next new _ =>
    have hcreated := Calm.createSub s p i new
    split
    · next old hold =>
      refine refusedIf_keeps (.refl s) fun _ => .departsIf hcreated _ fun hc hg => ?_
      rw [guardAt_of_sub hr, hold] at hg
      rw [createSub_guardAt hr]
      exact Bool.of_not_eq_false fun hn => hc ⟨hg, hn⟩
    · next hnone =>
      refine refusedIf_keeps (.refl s) fun _ => (hcreated.unexcused fun hg => ?_).turns
      rw [guardAt_of_sub hr, hnone] at hg
      cases hg

theorem Turns.unsubscribe (h : Handle) : Turns s (s.unsubscribe p h).state := by
  refine withHandle_keeps (.refl s) fun i r hr => ?_
  split
  · exact .refl s
  · next old hold =>
    refine refusedIf_keeps (.refl s) fun _ => .departsIf (.updSub (.inl ⟨rfl, rfl⟩)) _ fun hc hg => ?_
    rw [guardAt_of_sub hr, hold] at hg
    exact absurd hg hc

/-- The end of an entry can take away its subscription, and offers a release of GUARD to the domain (R72, R77). -/
theorem Turns.endEntry (e : Entry) : Turns s (s.endEntry p e) := by
  have hback : ∀ t : State, Calm (fun j q => j = e.slot ∧ q = p) t (t.overdueBack p e) := fun t => by
    unfold State.overdueBack
    split
    · exact .setOverdue t p _
    · exact .refl t
  have hreleased : ∀ t : State, Calm (fun j q => j = e.slot ∧ q = p) t (t.releaseSub e.slot p) := fun t => by
    unfold State.releaseSub
    split
    · exact .removeDraining ⟨rfl, rfl⟩
    · exact .heldEvaluation t e.slot p
  have hgone := ((Calm.entryGone s p e.slot).trans (hback _)).trans (hreleased _)
  exact (Turns.departsIf hgone (s.guardAt e.slot p = true) fun hn hg => absurd hg hn).trans (Calm.owe _ p).turns

theorem Turns.release (h : Handle) : Turns s (s.release p h).state := by
  refine withHandle_keeps (.refl s) fun i r _ => ?_
  split
  · exact .refl s
  · exact .endEntry s p _

theorem Turns.releaseTop : Turns s (s.releaseTop p).state := by
  unfold State.releaseTop
  split
  · exact .refl s
  · exact .endEntry s p _

end guards

/-! ## DOMAIN_RESET and DOMAIN_RELEASE -/

section domains
variable (s : State) (p : Port)

theorem Turns.domainReset (dom mode timeout : Byte) : Turns s (s.domainReset p dom mode timeout).state := by
  refine controlOnly_keeps (.refl s) ?_
  split
  · next d m _ _ =>
    unfold State.resetDomain
    split
    · next hrun _ =>
      split
      · exact (Turn.warns d timeout).turns
      · exact (Turn.resets d hrun).turns
    · next hrun _ => exact (Turn.resets d hrun).turns
    · exact .refl s
    · dsimp only
      exact (Turn.ends d).turns
    · exact .refl s
  · exact .refl s

/-- The levels applied again are those of records of a domain that is HELD no longer (R106). -/
theorem Calm.reapply {s : State} {d : Dom} (h : s.domains[d].state ≠ .held) : Calm E s (s.reapply d).1 := by
  have hslots : ∀ (l : List SlotNo) (acc : State × Nat), acc.1.domains[d].state ≠ .held →
      Calm E acc.1 (l.foldl (State.reapplySlot d) acc).1 := by
    intro l
    induction l with
    | nil => exact fun acc _ => .refl acc.1
    | cons i l ih =>
      intro acc hacc
      have hslot : Calm E acc.1 (State.reapplySlot d acc i).1 := by
        unfold State.reapplySlot
        split
        · exact .refl _
        · next v hv =>
          split
          · exact .refl _
          · obtain ⟨r, -, hr, -, hd, -⟩ := State.reapplied_some hv
            have hfree : acc.1.heldAt i = false := by
              simp only [State.heldAt, hr, hd, State.domainHeld, hacc, decide_false]
            exact .change (.free hfree v) 0
      exact hslot.trans (ih _ (by rw [hslot.domains]; exact hacc))
  exact hslots _ (s, 0) h

theorem Turns.domainRelease (dom : Byte) : Turns s (s.domainRelease p dom).state := by
  refine controlOnly_keeps (.refl s) ?_
  split
  · exact .refl s
  · next d _ =>
    unfold State.releaseDomain
    split
    · exact .refl s
    · exact (Turn.cancels d).turns
    · next hheld =>
      have hruns := (Turn.runs d hheld).turns
      have hrun : ((s.modDomain d fun x => { x with state := .run }).setValue (domainSlot d)
          (domStateByte .run)).domains[d].state ≠ .held := by
        rw [State.setValue_domains, State.modDomain_get, if_pos rfl]
        exact nofun
      dsimp only [State.releaseHeld]
      exact hruns.trans (Calm.reapply hrun).turns

end domains

theorem Turns.carryOut (s : State) (p : Port) (found : Option Level) (c : Command) : Turns s (s.carryOut p found c).state := by
  cases c with
  | declare id kind init dflt dom policy => exact (Calm.declareCommand s p id kind init dflt dom policy).turns
  | retire h => exact (Calm.retireCommand s p h).turns
  | claim h => exact (Calm.claim s p h).turns
  | lookup id => exact (Calm.lookup s id).turns
  | lock h => exact (Calm.lock s p h).turns
  | set h v => exact (Calm.set s p h v).turns
  | setIf h e v => exact (Calm.setIf s p h e v).turns
  | raise h n => exact (Calm.raise s p h n).turns
  | read h => exact withHandle_keeps (.refl s) fun _ _ _ => .refl s
  | readGroup l => exact refusedIf_keeps (.refl s) fun _ => .refl s
  | subscribe h prio cond m mode cls attrs => exact .subscribe s p h prio cond m mode cls attrs
  | unsubscribe h => exact .unsubscribe s p h
  | acquire => exact (Calm.acquire s p).turns
  | release h => exact .release s p h
  | releaseTop => exact .releaseTop s p
  | threshold t => exact (Calm.setThreshold s p t).turns
  | serviceList => exact .refl s
  | domainReset dom mode timeout => exact .domainReset s p dom mode timeout
  | domainRelease dom => exact .domainRelease s p dom
  | bindPin pin h dir active filter => exact (Calm.bindPin s p found pin h dir active filter).turns
  | unbindPin pin => exact (Calm.unbindPin s p pin).turns
  | pinQuery pin => exact (Calm.pinQuery s pin).turns
  | evict port => exact (Calm.evict s p port).turns

/-- Every row is a run of turns, or leaves every domain in RUN with nobody awaited. -/
theorem RowCase.turns {s t : State} (h : RowCase s t) : Turns s t ∨ ∀ d : Dom, t.domains[d] = DomainEntry.cold := by
  have hsame : ∀ {u v : State}, v.slots = u.slots → v.domains = u.domains → Turns u v := fun hslots hdom =>
    (Calm.of_same hslots hdom).turns
  cases h with
  | idle h => rw [h]; exact .inl (.refl s)
  | cold h => rw [h]; exact .inr s.cold_domain
  | released levels hr h => rw [h]; exact .inr (State.released_domain s levels)
  | divided h => rw [h]; exact .inl (hsame rfl rfl)
  | ticked board h => rw [h]; exact .inl (hsame s.engaged_slots s.engaged_domains)
  | accepted g h => rw [h]; exact .inl (hsame rfl rfl)
  | deadlineRanOut p k h => rw [h]; exact .inl (hsame rfl rfl)
  | warningRanOut d h => rw [h]; exact .inl (hsame rfl rfl)
  | atPort p f h => rw [h]; exact .inl (hsame rfl rfl)
  | request r hc h =>
    rw [h]
    exact .inl (((hsame (s.taken_slots r) (s.taken_domains r)).trans (.carryOutRequest _ r)).trans (hsame rfl rfl))
  | command p q found a hc h =>
    rw [h]
    have hserving := hsame (s.serving_slots p q) (s.taken_domains _)
    exact .inl ((hserving.trans (.carryOut _ p found q.command)).trans
      ((hsame (State.sendAnswer_slots _ p a) (State.sendAnswer_domains _ p a)).trans (hsame rfl rfl)))

end Sys2Proof.Machine
end

section
/-! The LIVE unlocked LEVEL records of a HELD domain at their defaults (R107) and the awaited sets within the GUARD subscribers
(R100), over every row. -/

namespace Sys2Proof.Machine

open Sys2Proof

/-! ## Records of a HELD domain -/

section heldRecords
variable (s : State) (p : Port)

theorem departOn_noNewStrays (i : SlotNo) : NoNewStrays s (s.departOn i p) := by
  unfold State.departOn
  split
  · exact fun _ _ h => h
  · exact depart_noNewStrays s _ p

theorem leaveAwaited_noNewStrays : NoNewStrays s (s.leaveAwaited p) := by
  have hfold : ∀ (l : List Dom) (t : State), NoNewStrays t (l.foldl (fun u d => u.depart d p) t) := by
    intro l
    induction l with
    | nil => exact fun _ _ _ h => h
    | cons d l ih => exact fun t => (depart_noNewStrays t d p).trans (ih _)
  exact hfold _ s

theorem resetNow_noNewStrays (d : Dom) : NoNewStrays s (s.resetNow d).state := by
  have hswept := resetNow_sweptInto s d s.ports
  generalize (s.resetNow d).state = m at hswept ⊢
  exact (hswept.noNewStrays).trans (.of_domains (fun _ _ => rfl) fun _ h => h)

end heldRecords

/-- The start of a warning but for its timer, its cancelling and the return to RUN: the entry of d becomes one that is not HELD,
and the DOMAIN record is given a value. -/
theorem modDomain_setDomain_noNewStrays (s : State) (d : Dom) (v : Byte) {f : DomainEntry → DomainEntry}
    (hf : (f s.domains[d]).state ≠ .held) : NoNewStrays s ((s.modDomain d f).setValue (domainSlot d) v) :=
  (modDomain_noNewStrays s d fun h => absurd h hf).trans (Calm.setDomain (E := fun _ _ => False) _ d v).strays

theorem Calm.startWarningTimer {E : SlotNo → Port → Prop} (s : State) (d : Dom) (serial timeout : Byte) :
    Calm E s (s.startWarningTimer d serial timeout) := by
  unfold State.startWarningTimer
  split
  · exact .refl s
  · exact .of_same rfl rfl

theorem Calm.cancelWarningTimer {E : SlotNo → Port → Prop} (s : State) (d : Dom) : Calm E s (s.cancelWarningTimer d) :=
  .of_same rfl rfl

theorem Turn.noNewStrays {s t : State} (h : Turn s t) : NoNewStrays s t := by
  cases h with
  | calm h => exact h.strays
  | departs i p h => exact h.strays.trans (departOn_noNewStrays _ p i)
  | leaves p h => exact h.strays.trans (leaveAwaited_noNewStrays _ p)
  | ends d => exact endWarning_noNewStrays s d
  | resets d _ => exact resetNow_noNewStrays s d
  | warns d timeout =>
    unfold State.startWarning
    exact (modDomain_setDomain_noNewStrays s d _ (by exact nofun)).trans
      (Calm.startWarningTimer (E := fun _ _ => False) _ d _ _).strays
  | cancels d =>
    unfold State.cancelWarning
    exact (Calm.cancelWarningTimer (E := fun _ _ => False) s d).strays.trans (modDomain_setDomain_noNewStrays _ d _ nofun)
  | runs d _ => exact modDomain_setDomain_noNewStrays s d _ nofun

/-- Where no domain is HELD, R107 asks nothing. -/
theorem HeldAtDefault.of_cold {s : State} (h : ∀ d : Dom, s.domains[d] = DomainEntry.cold) : HeldAtDefault s := by
  refine heldAtDefault_iff.mpr fun i _ ⟨r, _, _, _, _, hheld, _⟩ => ?_
  unfold State.domainHeld at hheld
  split at hheld
  · next d _ =>
    rw [h d] at hheld
    cases of_decide_eq_true hheld
  · cases hheld

/-- Settles O53: no turn of a row brings a record away from its default under a HELD domain, and a reset leaves none HELD. -/
theorem stepsKeepHeldAtDefault : Obligations.StepsKeepHeldAtDefault := by
  intro s t hs ht
  obtain ⟨c, hrow⟩ := step_rowCase ht
  rcases hrow.turns with h | h
  · exact h.keep (fun _ _ hturn => hturn.noNewStrays.heldAtDefault) hs
  · exact .of_cold h

/-! ## Awaited sets -/

/-- A port awaited has a GUARD subscription on the DOMAIN record or is excused by E, and its domain is in WARNING. -/
def AwaitedBut (E : SlotNo → Port → Prop) (s : State) : Prop :=
  ∀ (d : Dom) (p : Port), s.domains[d].awaited[p] = true →
    s.domains[d].state = .warning ∧ (E (domainSlot d) p ∨ s.guardAt (domainSlot d) p = true)

theorem awaitedAreGuards_iff {s : State} : AwaitedAreGuards s ↔ AwaitedBut (fun _ _ => False) s := by
  refine forall_congr' fun d => forall_congr' fun p => imp_congr_right fun _ => and_congr_right fun _ => ?_
  rw [false_or, guardAt_eq]

section awaited
variable {E E' : SlotNo → Port → Prop} {s t : State}

theorem AwaitedBut.imp (h : AwaitedBut E s) (himp : ∀ d p, E (domainSlot d) p → E' (domainSlot d) p) : AwaitedBut E' s :=
  fun d p ha => (h d p ha).imp_right (Or.imp_left (himp d p))

/-- Whoever is awaited has the GUARD yet, or lost it and is excused. -/
theorem AwaitedAreGuards.calm (hs : AwaitedAreGuards s) (h : Calm E s t) : AwaitedBut E t := by
  intro d p ha
  rw [h.domains] at ha ⊢
  obtain ⟨hwarning, hguard⟩ := hs d p ha
  refine ⟨hwarning, or_iff_not_imp_left.mpr fun hE => h.guards _ p (by rw [domainSlot_val]; omega) hE ?_⟩
  rw [guardAt_eq]
  exact hguard

/-- The entry of one domain is replaced by one whose awaited ports have the GUARD, and no GUARD is lost. -/
theorem AwaitedAreGuards.of_entry (hs : AwaitedAreGuards s) {d : Dom} {x : DomainEntry}
    (hdom : ∀ e : Dom, t.domains[e] = if e = d then x else s.domains[e]) (hguards : GuardsKept (fun _ _ => False) s t)
    (hx : ∀ p : Port, x.awaited[p] = true → x.state = .warning ∧ s.guardAt (domainSlot d) p = true) : AwaitedAreGuards t := by
  refine awaitedAreGuards_iff.mpr fun e p ha => ?_
  have hkept : s.guardAt (domainSlot e) p = true → t.guardAt (domainSlot e) p = true :=
    hguards _ p (by rw [domainSlot_val]; omega) id
  rw [hdom] at ha ⊢
  split at ha
  · next he =>
    subst he
    rw [if_pos rfl]
    exact (hx p ha).imp_right fun h => .inr (hkept h)
  · next he =>
    rw [if_neg he]
    exact (awaitedAreGuards_iff.mp hs e p ha).imp_right fun h => .inr (hkept (h.resolve_left id))

/-- Nobody is awaited where the domain is not in WARNING. -/
theorem AwaitedAreGuards.nobody (hs : AwaitedAreGuards s) {d : Dom} (h : s.domains[d].state ≠ .warning) (p : Port) :
    s.domains[d].awaited[p] ≠ true := fun ha => h (hs d p ha).1

end awaited

/-! ## Departures -/

section departures
variable {E : SlotNo → Port → Prop} {s : State}

theorem domainSlot_inj {d e : Dom} (h : domainSlot d = domainSlot e) : d = e := by
  have := congrArg domainOfSlot h
  rw [domainOfSlot_domainSlot, domainOfSlot_domainSlot] at this
  exact Option.some.inj this

/-- A departure awaits nobody new, leaves the state of a domain that still awaits somebody, and takes p out of d's set. -/
theorem depart_awaited {d e : Dom} {p q : Port} (hw : s.domains[e].awaited[q] = true → s.domains[e].state = .warning)
    (ha : (s.depart d p).domains[e].awaited[q] = true) :
    s.domains[e].awaited[q] = true ∧ (s.depart d p).domains[e].state = s.domains[e].state ∧ ¬ (e = d ∧ q = p) := by
  have hentry := congrArg Prod.fst (depart_domain s d p e)
  dsimp only at hentry
  rw [hentry] at ha ⊢
  by_cases he : e = d
  · subst he
    rw [if_pos rfl] at ha ⊢
    unfold State.domainTornDown at ha ⊢
    split at ha
    · rw [replicate_get] at ha
      cases ha
    · next hl =>
      rw [if_neg hl]
      split at ha
      · next hwarning =>
        rw [if_pos hwarning]
        dsimp only at ha
        rw [set_get] at ha
        split at ha
        · cases ha
        · next hq => exact ⟨ha, rfl, fun hc => hq hc.2⟩
      · next hwarning => exact absurd (hw ha) hwarning
  · rw [if_neg he] at ha ⊢
    exact ⟨ha, rfl, fun hc => he hc.1⟩

theorem AwaitedBut.depart (h : AwaitedBut E s) (d : Dom) (p : Port) :
    AwaitedBut (fun i q => E i q ∧ ¬ (i = domainSlot d ∧ q = p)) (s.depart d p) := by
  intro e q ha
  obtain ⟨hbefore, hstate, hnot⟩ := depart_awaited (fun hb => (h e q hb).1) ha
  obtain ⟨hwarning, hE | hguard⟩ := h e q hbefore
  · exact ⟨hstate.trans hwarning, .inl ⟨hE, fun hc => hnot ⟨domainSlot_inj hc.1, hc.2⟩⟩⟩
  · have hsystem : (domainSlot e).val < 20 := by rw [domainSlot_val]; omega
    exact ⟨hstate.trans hwarning, .inr (depart_guardsKept s d p (fun _ _ => False) _ q hsystem id hguard)⟩

/-- The departure that follows the loss of a GUARD excuses it (R48, R50, R77). -/
theorem AwaitedBut.departOn {i : SlotNo} {p : Port} (h : AwaitedBut (fun j q => j = i ∧ q = p) s) :
    AwaitedAreGuards (s.departOn i p) := by
  refine awaitedAreGuards_iff.mpr ?_
  unfold State.departOn
  split
  · next hnone =>
    refine h.imp fun d q hc => ?_
    obtain ⟨rfl, -⟩ := hc
    rw [domainOfSlot_domainSlot] at hnone
    cases hnone
  · next d hd =>
    rw [domainOfSlot_some hd] at h
    exact (h.depart d p).imp fun e q hc => hc.2 hc.1

/-- Departures from one set after another excuse p for each in turn (R155). -/
theorem AwaitedBut.departs {p : Port} (l : List Dom) (h : AwaitedBut (fun i q => q = p ∧ ∃ d ∈ l, i = domainSlot d) s) :
    AwaitedAreGuards (l.foldl (fun t d => t.depart d p) s) := by
  induction l generalizing s with
  | nil => exact awaitedAreGuards_iff.mpr (h.imp fun _ _ ⟨_, _, hd, _⟩ => List.not_mem_nil hd)
  | cons d l ih =>
    refine ih ((h.depart d p).imp fun e q ⟨⟨hq, c, hc, he⟩, hnot⟩ => ⟨hq, c, ?_, he⟩)
    refine (List.mem_cons.mp hc).resolve_left fun hcd => hnot ⟨hcd ▸ he, hq⟩

theorem AwaitedBut.leaveAwaited {p : Port} (h : AwaitedBut (fun _ q => q = p) s) : AwaitedAreGuards (s.leaveAwaited p) :=
  AwaitedBut.departs _ (h.imp fun d _ hq => ⟨hq, d, List.mem_finRange d, rfl⟩)

end departures

/-! ## Turns -/

section turns
variable {s t : State}

theorem AwaitedAreGuards.endWarning (hs : AwaitedAreGuards s) (d : Dom) : AwaitedAreGuards (s.endWarning d).1 := by
  refine hs.of_entry (d := d) (x := s.domains[d].ended) (fun e => ?_) (endWarning_guardsKept s d _) fun p ha => ?_
  · rw [endWarning_rest]
    exact set_get s.domains d e _
  · simp only [DomainEntry.ended, replicate_get] at ha
    cases ha

theorem AwaitedAreGuards.resetNow (hs : AwaitedAreGuards s) {d : Dom} (hrun : s.domains[d].state = .run) :
    AwaitedAreGuards (s.resetNow d).state := by
  have hnobody := hs.nobody (d := d) (by rw [hrun]; exact nofun)
  have hswept := resetNow_sweptInto s d s.ports
  generalize (s.resetNow d).state = m at hswept ⊢
  refine hs.of_entry (d := d) (x := { s.domains[d] with state := .held }) hswept.domain (fun i p hi hE hg => ?_)
    fun p ha => absurd ha (hnobody p)
  exact (guardAt_congr rfl p).trans (hswept.guardsKept (fun _ _ => False) i p hi hE hg)

/-- The entry of d is replaced and the DOMAIN record is given a value. -/
theorem AwaitedAreGuards.setDomain (hs : AwaitedAreGuards s) (d : Dom) (f : DomainEntry → DomainEntry) (v : Byte)
    (hf : ∀ p : Port, (f s.domains[d]).awaited[p] = true →
      (f s.domains[d]).state = .warning ∧ s.guardAt (domainSlot d) p = true) :
    AwaitedAreGuards ((s.modDomain d f).setValue (domainSlot d) v) := by
  refine hs.of_entry (d := d) (x := f s.domains[d]) (fun e => ?_)
    ((modDomain_guardsKept s d f _).trans (Calm.setDomain _ d v).guards) hf
  rw [State.setValue_domains, State.modDomain_get]

theorem AwaitedAreGuards.still (hs : AwaitedAreGuards s) (h : Calm (fun _ _ => False) s t) : AwaitedAreGuards t :=
  awaitedAreGuards_iff.mpr (hs.calm h)

/-- A warning starts awaiting the ports that hold a GUARD subscription (R95). -/
theorem guardPorts_get (s : State) (d : Dom) (p : Port) : (s.guardPorts d)[p] = s.guardAt (domainSlot d) p := by
  rw [State.guardPorts, ofFn_get, State.guardAt]
  cases s.subAt (domainSlot d) p <;> rfl

theorem Turn.awaitedAreGuards (h : Turn s t) (hs : AwaitedAreGuards s) : AwaitedAreGuards t := by
  cases h with
  | calm h => exact hs.still h
  | departs i p h => exact (hs.calm h).departOn
  | leaves p h => exact (hs.calm h).leaveAwaited
  | ends d => exact hs.endWarning d
  | resets d hrun => exact hs.resetNow hrun
  | warns d timeout =>
    unfold State.startWarning
    exact (hs.setDomain d _ _ fun p ha => ⟨rfl, (guardPorts_get s d p).symm.trans ha⟩).still (.startWarningTimer _ d _ _)
  | cancels d =>
    unfold State.cancelWarning
    refine (hs.still (.cancelWarningTimer s d)).setDomain d _ _ fun p ha => ?_
    rw [replicate_get] at ha
    cases ha
  | runs d hheld => exact hs.setDomain d _ _ fun p ha => absurd ha (hs.nobody (by rw [hheld]; exact nofun) p)

end turns

/-- Nobody is awaited after a reset. -/
theorem AwaitedAreGuards.of_cold {s : State} (h : ∀ d : Dom, s.domains[d] = DomainEntry.cold) : AwaitedAreGuards s := by
  intro d p ha
  rw [h d, DomainEntry.cold, replicate_get] at ha
  cases ha

/-- Settles O54: every turn that takes a GUARD away makes its port depart, and a warning starts with the ports that hold one. -/
theorem stepsKeepAwaitedAreGuards : Obligations.StepsKeepAwaitedAreGuards := by
  intro s t hs ht
  obtain ⟨c, hrow⟩ := step_rowCase ht
  rcases hrow.turns with h | h
  · exact h.keep (fun _ _ => Turn.awaitedAreGuards) hs
  · exact .of_cold h

end Sys2Proof.Machine
end

section
/-! WARNING_EXPIRY_REQUEST as the engine takes it (R102), and the indications at the end of a row that only changed records. -/

namespace Sys2Proof.Machine

open Sys2Proof

/-! ## The end of a row of changes -/

section ends
variable {P : SlotNo → Prop} {s s0 m : State}

/-- Where no indication was owed, changes owe those of the pending sets that differ (R63). -/
theorem Follows.owes_iff (h : Follows P s0 m) (hsub : ∀ i q, s0.subAt i q = s.subAt i q)
    (hnone : ∀ q : Port, s0.ports[q].inIndication = none) (q : Port) :
    m.owes q ↔ PendingSetDiffers s m q ∨ q ∈ ([] : List Port) := by
  rw [h.acts.owes, State.owes, hnone q]
  simp only [PendingSetDiffers, hsub, Option.isSome_none, Bool.false_eq_true, false_or, List.not_mem_nil, or_false]

/-- The changes of an internal request, and the indications they call for. -/
theorem Follows.sent (h : Follows P s m) (hnone : ∀ q : Port, s.ports[q].inIndication = none) :
    Ends s { m with ports := s.ports } m.sendIndications [] := by
  refine ⟨rfl, fun q => ?_, .of_owes rfl (m := m) (State.sendIndications_indication m)
    (h.owes_iff (fun _ _ => rfl) hnone)⟩
  rw [State.sendIndications_get, h.acts.ports q]

/-- The changes of a command of p, its answer, and the indications they call for. -/
theorem Takes.ended {p : Port} {tag : Byte} {c : Command} {rest : List Queued} (ht : Takes s p tag c rest)
    (h : Follows P (s.serving p ⟨tag, c⟩) m) (a : Answer) :
    Ends s { m with ports := (s.answered p rest a).ports } (m.sendAnswer p a).sendIndications [] := by
  obtain ⟨hstand, hexact⟩ := ht.ends h.acts.ports a (h.owes_iff ht.serving_subAt ht.serving_indication)
  exact ⟨rfl, hstand, hexact⟩

end ends

/-! ## WARNING_EXPIRY_REQUEST -/

/-- The row of the expiry the engine has chosen. -/
theorem exec_warningExpiryRequest {s : State} {d : Dom} {serial : Byte} (h : s.choice = some (.warning d serial)) :
    exec (.warningExpiryRequest d) s = .next ((s.taken (.warning d serial)).warningExpires d serial).sendIndications :=
  congrArg Host.Outcome.next (State.takeInternal_takes s h (act := fun t => t.warningExpires d serial) (if_pos rfl))

/-- Settles O21: an expiry of another serial, or outside WARNING, is discarded, and of the one under way ends the warning
(`endWarning_warningEnds`). -/
theorem warningExpiriesEndTheWarning : Obligations.WarningExpiriesEndTheWarning := by
  unfold Obligations.WarningExpiriesEndTheWarning
  intro s d serial hc
  have hdom := s.taken_domains (.warning d serial)
  have hnone := taken_indication hc
  refine ⟨_, _, exec_warningExpiryRequest hc, rfl, ?_⟩
  rw [← hdom]
  generalize s.taken (.warning d serial) = s0 at hnone ⊢
  refine ⟨fun hdiscarded => ?_, fun hwarning hserial => ?_⟩
  · rw [State.warningExpires, if_neg (by tauto), State.sendIndications_none s0 hnone]
  · rw [State.warningExpires, if_pos ⟨hwarning, hserial⟩]
    have hends := endWarning_warningEnds s0 d s0.ports
    have hsent := (Follows.endWarning s0 d).sent hnone
    generalize (s0.endWarning d).1 = m at hends hsent ⊢
    exact ⟨_, hends, hsent⟩

end Sys2Proof.Machine
end

section
/-! DOMAIN_RESET as it is answered (R94 to R99). -/

namespace Sys2Proof.Machine

open Sys2Proof

/-! ## Counts of a fold -/

section count
variable {op : State × Nat → SlotNo → State × Nat} {counts : State → SlotNo → Bool}

/-- A fold that counts slots one by one, each by what stands in it when it is reached, counts them as they stood at the
beginning, if no slot's turn alters what another is counted by. -/
theorem foldl_count (hop : ∀ acc i, (op acc i).2 = acc.2 + if counts acc.1 i then 1 else 0)
    (hstands : ∀ acc i j, j ≠ i → counts (op acc i).1 j = counts acc.1 j) (l : List SlotNo) (hn : l.Nodup) (acc : State × Nat) :
    (l.foldl op acc).2 = acc.2 + l.countP (counts acc.1) := by
  induction l generalizing acc with
  | nil => rfl
  | cons i l ih =>
    obtain ⟨hi, hn⟩ := List.nodup_cons.mp hn
    have hlater : l.countP (counts (op acc i).1) = l.countP (counts acc.1) :=
      List.countP_congr fun j hj => by rw [hstands acc i j fun e => hi (e ▸ hj)]
    rw [List.foldl_cons, ih hn, hop, hlater, List.countP_cons]
    omega

end count

/-- A sweep changes a record that is away from its default (R103). -/
theorem sweepSlot_count (d : Dom) (acc : State × Nat) (i : SlotNo) :
    (State.sweepSlot d acc i).2
      = acc.2 + if ((acc.1.slots[i].record).bind fun r => r.sweepTarget d).isSome then 1 else 0 := by
  unfold State.sweepSlot
  cases acc.1.slots[i].record with
  | none => rfl
  | some r =>
    rw [Option.bind_some]
    dsimp only
    cases r.sweepTarget d <;> rfl

/-- The sweep passes over system records (R103). -/
theorem sweptTo_system (s : State) (d : Dom) {i : SlotNo} (hi : i.val < 20) : s.sweptTo d i = none := by
  unfold State.sweptTo
  cases s.slots[i].record with
  | none => rfl
  | some r => exact Option.filter_eq_none_iff.mpr fun v _ hc => absurd (of_decide_eq_true hc).1 (Nat.not_le.mpr hi)

/-- The sweep counts the records it changes (R97). -/
theorem sweep_count (s : State) (d : Dom) : (s.sweep d).2 = s.sweptCount d := by
  have hstands : ∀ acc i j, j ≠ i → (((State.sweepSlot d acc i).1.slots[j].record).bind fun r => r.sweepTarget d).isSome
      = ((acc.1.slots[j].record).bind fun r => r.sweepTarget d).isSome := fun acc i j hj => by
    rw [sweepSlot_fst, (sweptAt_acts d acc.1 i).slot j fun c => hj c.1]
  have hcount := foldl_count (counts := fun t i => ((t.slots[i].record).bind fun r => r.sweepTarget d).isSome)
    (sweepSlot_count d) hstands userSlots userSlots_nodup (s, 0)
  rw [State.sweep, hcount, State.sweptCount, userSlots, List.countP_filter, Nat.zero_add]
  refine List.countP_congr fun i _ => ?_
  by_cases hi : i.val < 20
  · simp only [sweptTo_system s d hi, (isSystemSlot_iff i).mpr hi, Bool.not_true, Bool.and_false, Option.isSome_none]
  · have huser : isSystemSlot i = false := Bool.eq_false_of_not_eq_true fun h => hi ((isSystemSlot_iff i).mp h)
    rw [sweptTo_user s d (Nat.not_lt.mp hi), huser, Bool.not_false, Bool.and_true]

theorem sweptCount_congr {s t : State} (h : t.slots = s.slots) (d : Dom) : t.sweptCount d = s.sweptCount d := by
  simp only [State.sweptCount, State.sweptTo, h]

theorem endWarning_count (s : State) (d : Dom) : (s.endWarning d).2 = s.sweptCount d := by
  have hstart : (s.sweepStart d).sweptCount d = s.sweptCount d := sweptCount_congr rfl d
  rw [← hstart, ← sweep_count]
  unfold State.endWarning State.sweepStart
  dsimp only

/-! ## Fields of the command -/

theorem domOf_val {b : Byte} {d : Dom} (h : b.toNat = d.val) : domOf b = some d := by
  have hlt : b.toNat < 8 := h ▸ d.isLt
  rw [domOf, dif_pos hlt]
  exact congrArg some (Fin.ext h)

theorem domOf_none {b : Byte} (h : 8 ≤ b.toNat) : domOf b = none := dif_neg (Nat.not_lt.mpr h)

theorem resetModeOf_none {b : Byte} (h : 2 ≤ b.toNat) : resetModeOf b = none := by
  rw [resetModeOf, if_neg (by rintro rfl; exact absurd h (by decide)), if_neg (by rintro rfl; exact absurd h (by decide))]

theorem resetModeOf_some {b : Byte} (h : b.toNat < 2) : ∃ m, resetModeOf b = some m := by
  have hcases : b = 0#8 ∨ b = 1#8 := by bv_omega
  rcases hcases with rfl | rfl
  · exact ⟨.warned, rfl⟩
  · exact ⟨.immediate, rfl⟩

/-- Each port of the list sets the bit of its number. -/
theorem portBits_getLsbD (v : Vector Bool 6) (l : List Port) (b : Byte) {n : Nat} (hn : n < 8) :
    (l.foldl (fun b p => if v[p] then b ||| (1#8 <<< p.val) else b) b).getLsbD n
      = (b.getLsbD n || l.any fun p => v[p] && decide (p.val = n)) := by
  induction l generalizing b with
  | nil => rw [List.foldl_nil, List.any_nil, Bool.or_false]
  | cons p l ih =>
    have hbit : (1#8 <<< p.val).getLsbD n = decide (p.val = n) := by
      rw [Bool.eq_iff_iff]
      simp only [BitVec.getLsbD_shiftLeft, BitVec.getLsbD_one, Bool.and_eq_true, decide_eq_true_eq, Bool.not_eq_true',
        decide_eq_false_iff_not]
      omega
    rw [List.foldl_cons, ih, List.any_cons]
    cases v[p] with
    | false => rw [Bool.false_and, Bool.false_or]; rfl
    | true => rw [if_pos rfl, BitVec.getLsbD_or, hbit, Bool.true_and, Bool.or_assoc]

/-- A byte with the bit of each port of the set, and no other, is the byte of the set. -/
theorem portSetByte_eq {v : Vector Bool 6} {set : Byte} (h : ∀ n : Nat, set.getLsbD n = (v[n]?).getD false) :
    portSetByte v = set := by
  refine BitVec.eq_of_getLsbD_eq fun n hn => ?_
  rw [portSetByte, portBits_getLsbD v _ _ hn, h n, BitVec.getLsbD_zero, Bool.false_or]
  rw [Bool.eq_iff_iff, List.any_eq_true]
  simp only [List.mem_finRange, true_and, Bool.and_eq_true, decide_eq_true_eq]
  constructor
  · rintro ⟨p, hp, rfl⟩
    rw [Vector.getElem?_eq_getElem p.isLt]
    exact hp
  · intro hset
    by_cases hlt : n < 6
    · rw [Vector.getElem?_eq_getElem hlt] at hset
      exact ⟨⟨n, hlt⟩, hset, rfl⟩
    · rw [Vector.getElem?_eq_none (Nat.not_lt.mp hlt)] at hset
      cases hset

/-! ## A value given and a domain set by a command -/

/-- The pins are read from the slots and pins at the end. -/
theorem PinsFollow.of_after {b m t : State} (h : PinsFollow b m) (hs : t.slots = m.slots) (hp : t.pins = m.pins) :
    PinsFollow b t := by
  intro g
  have hversion : ∀ j, t.versionAt j = m.versionAt j := fun j => versionAt_congr (by rw [hs])
  have hvalue : ∀ j, t.valueAt j = m.valueAt j := fun j => valueAt_congr (by rw [hs])
  have hpin := h g
  simp only [hp, hversion, hvalue]
  exact hpin

/-- The indications are read from the subscriptions at the beginning. -/
theorem IndicationsExact.of_before {s b t : State} {owed : List Port} (h : IndicationsExact s t owed)
    (hs : b.slots = s.slots) : IndicationsExact b t owed := by
  have hsub : ∀ j q, b.subAt j q = s.subAt j q := fun j q => subAt_congr (by rw [hs]) q
  simpa only [IndicationsExact, IndicationsSent, PendingSetDiffers, hsub] using h

/-- Where no pending set differs and nobody is owed one, no indication is on its way. -/
theorem IndicationsExact.none_sent {s t : State} (h : IndicationsExact s t []) (hs : t.slots = s.slots) (q : Port) :
    t.ports[q].inIndication = none := by
  obtain ⟨-, honly⟩ := h
  refine Option.not_isSome_iff_eq_none.mp fun hq => ?_
  rcases honly q hq with ⟨j, hj⟩ | hq
  · exact hj (congrArg isPending (subAt_congr (by rw [hs]) q).symm)
  · cases hq

/-- A record given the value it has makes no change, and no pin moves (R27). -/
theorem ValueGiven.same {b m : State} {i : SlotNo} {v : Byte} (h : ValueGiven b m i v) (hv : b.valueAt i = v) :
    m.slots = b.slots ∧ m.pins = b.pins := by
  obtain ⟨-, hgiven, hothers, hpins⟩ := h
  have hslot : m.slots[i] = b.slots[i] := (if_pos hv).mp hgiven
  have hslots : m.slots = b.slots := vector_ext fun j => by
    by_cases hj : j = i
    · rw [hj, hslot]
    · exact hothers j fun hc => hj (List.mem_singleton.mp hc)
  exact ⟨hslots, vector_ext fun g => hpins.stands fun _ _ => versionAt_congr (by rw [hslots])⟩

/-- What a value given leaves, with the ports standing and the indications exact, is what `GivenValue` says (R27, R28). -/
theorem GivenValue.of_valueGiven {s b m t : State} {i : SlotNo} {v : Byte} (h : ValueGiven b m i v) (hends : Ends s m t [])
    (hports : m.ports = b.ports) (hslots : b.slots = s.slots) (hnone : ∀ q : Port, b.ports[q].inIndication = none) :
    GivenValue b t i v := by
  have hsame := h.same
  obtain ⟨hrest, hgiven, hothers, hpins⟩ := h
  obtain ⟨hsent, hstand, hexact⟩ := hends
  have hstand : PortsStand b t := fun q => by rw [← hports]; exact hstand q
  have hexact : IndicationsExact b t [] := hexact.of_before hslots
  have hts : t.slots = m.slots := by rw [hsent]
  have htp : t.pins = m.pins := by rw [hsent]
  have hframe : t = { b with slots := t.slots, pins := t.pins, ports := t.ports } := by
    rw [hts, htp, hsent, hrest]
  unfold GivenValue
  split
  · next hv =>
    obtain ⟨hslotsSame, hpinsSame⟩ := hsame hv
    have hquiet : t.ports = b.ports := vector_ext fun q => by
      rw [hstand q, hexact.none_sent (hts.trans hslotsSame), ← hnone q]
    rw [hframe, hts, htp, hslotsSame, hpinsSame, hquiet]
  · next hv =>
    have hchanged : SlotChanged b m i v 0 := (if_neg hv).mp hgiven
    exact ⟨hframe, hchanged.between rfl rfl (by rw [hts]), fun j hj => by rw [hts]; exact hothers j hj,
      hpins.of_after hts htp, hstand, hexact⟩

section domain
variable {s : State} {p : Port} {tag : Byte} {c : Command} {rest : List Queued}

theorem Takes.answered_indication (ht : Takes s p tag c rest) (a : Answer) (q : Port) :
    (s.answered p rest a).ports[q].inIndication = none := by
  dsimp only [State.answered]
  rw [set_get]
  split
  · exact ht.no_indication p
  · exact ht.no_indication q

/-- A warning timer has no part in the giving of a value. -/
theorem ValueGiven.warnings {s m : State} {i : SlotNo} {v : Byte} (h : ValueGiven s m i v) (w : Vector WarningUnit 8) :
    ValueGiven { s with warnings := w } { m with warnings := w } i v := by
  obtain ⟨hrest, hgiven, hothers, hpins⟩ := h
  exact ⟨congrArg (fun x : State => { x with warnings := w }) hrest, hgiven, hothers, hpins⟩

/-- A command that sets entries of the Domain Table, gives one record a value, and starts or cancels warning timers. -/
theorem Takes.givenValue (ht : Takes s p tag c rest) {k m : State} {i : SlotNo} {v : Byte}
    (hk : k = { s.serving p ⟨tag, c⟩ with domains := k.domains, warnings := k.warnings })
    (hm : m = { k.setValue i v with warnings := m.warnings }) (a : Answer) :
    GivenValue { s.answered p rest a with domains := k.domains, warnings := m.warnings } (m.sendAnswer p a).sendIndications
      i v := by
  have hentry : Follows (fun _ => False) (s.serving p ⟨tag, c⟩) k := .of_domains hk
  have hgiven : Follows (· = i) k (k.setValue i v) := .setValue k i v
  have htimer : Follows (fun _ => False) (k.setValue i v) m := .of_domains (by rw [hm])
  have hends := ht.ended ((hentry.trans hgiven fun _ h => h.elim).trans htimer fun _ _ => id) a
  have hvalue := (setValue_valueGiven (ports := (s.answered p rest a).ports) (s := k) (i := i) v).warnings m.warnings
  have hbefore : { s.answered p rest a with domains := k.domains, warnings := m.warnings }
      = { k with ports := (s.answered p rest a).ports, warnings := m.warnings } := by
    rw [hk, ht.serving]
    rfl
  have hafter : { m with ports := (s.answered p rest a).ports }
      = { k.setValue i v with ports := (s.answered p rest a).ports, warnings := m.warnings } := by
    generalize k.setValue i v = u at hm
    rw [hm]
  rw [← hbefore, ← hafter] at hvalue
  exact .of_valueGiven hvalue hends rfl rfl (ht.answered_indication a)

end domain

/-! ## The cases of Table 6-3 -/

theorem controlOnly_control {s : State} {p : Port} (h : s.ports[p].cls = .control) (act : State → Done) :
    controlOnly s p act = act s := by
  rw [controlOnly, h]

section outcomes
variable {s : State} {p : Port}

/-- A bad domain or mode (R94). -/
theorem State.domainReset_bad (hcls : s.ports[p].cls = .control) {dom mode : Byte} (h : 8 ≤ dom.toNat ∨ 2 ≤ mode.toNat)
    (timeout : Byte) : s.domainReset p dom mode timeout = refuse s .badParam := by
  rw [State.domainReset, controlOnly_control hcls]
  rcases h with h | h
  · rw [domOf_none h]
  · rw [resetModeOf_none h]
    cases domOf dom <;> rfl

/-- A good domain and mode go by Table 6-3. -/
theorem State.domainReset_good (hcls : s.ports[p].cls = .control) {dom mode : Byte} {d : Dom} {m : ResetMode}
    (hd : dom.toNat = d.val) (hm : resetModeOf mode = some m) (timeout : Byte) :
    s.domainReset p dom mode timeout = s.resetDomain d m timeout := by
  rw [State.domainReset, controlOnly_control hcls, domOf_val hd, hm]

/-- The entry of a domain whose warning starts (R95). -/
def DomainEntry.warned (x : DomainEntry) (awaited : Vector Bool 6) (timeout : Byte) : DomainEntry :=
  { state := .warning, awaited := awaited, serial := x.serial + 1#8, timeout := timeout }

/-- The warning timers once d's has been asked for (R91). -/
def State.warningsFor (s : State) (d : Dom) (timeout : Byte) : Vector WarningUnit 8 :=
  if timeout = 0#8 then s.warnings
  else s.warnings.set d
    { s.warnings[d] with timer := some { serial := s.domains[d].serial + 1#8, remaining := 16 * timeout.toNat } }

/-- What the start of a warning leaves: the entry, the DOMAIN record given 1, and the timer (R95). -/
theorem State.startWarning_eq (s : State) (d : Dom) (timeout : Byte) :
    s.startWarning d timeout
      = { (s.modDomain d fun x => x.warned (s.guardPorts d) timeout).setValue (domainSlot d) 1#8 with
          warnings := s.warningsFor d timeout } := by
  have hwarnings : ((s.modDomain d fun x => x.warned (s.guardPorts d) timeout).setValue (domainSlot d) 1#8).warnings
      = s.warnings := by
    rw [State.setValue_warnings, State.modDomain_warnings]
  show State.startWarningTimer ((s.modDomain d fun x => x.warned (s.guardPorts d) timeout).setValue (domainSlot d) 1#8) d
    (s.domains[d].serial + 1#8) timeout = _
  generalize (s.modDomain d fun x => x.warned (s.guardPorts d) timeout).setValue (domainSlot d) 1#8 = m at hwarnings ⊢
  unfold State.startWarningTimer State.warningsFor State.modWarning
  rw [hwarnings]
  split
  · rw [← hwarnings]
  · rfl

theorem State.startWarning_fields (s : State) (d : Dom) (timeout : Byte) :
    (s.startWarning d timeout).domains[d].warningFields
      = [s.domains[d].serial + 1#8, portSetByte (s.guardPorts d), timeout] := by
  have hentry : (s.startWarning d timeout).domains[d] = s.domains[d].warned (s.guardPorts d) timeout := by
    rw [State.startWarning_eq]
    dsimp only
    rw [State.setValue_domains, State.modDomain_get, if_pos rfl]
  rw [hentry]
  rfl

theorem State.guardPorts_eq (s : State) {d : Dom} {awaited : Vector Bool 6}
    (h : ∀ q : Port, awaited[q] = (s.subAt (domainSlot d) q).any (·.guard)) : s.guardPorts d = awaited :=
  vector_ext fun q => by rw [guardPorts_get, guardAt_eq, h]

theorem anyPort_iff (v : Vector Bool 6) : ((List.finRange 6).any fun p => v[p]) = true ↔ ∃ q : Port, v[q] = true := by
  rw [List.any_eq_true]
  exact exists_congr fun q => and_iff_right (List.mem_finRange q)

/-- WARNED in RUN, with somebody to await (R95). -/
theorem State.resetDomain_starts {d : Dom} (hrun : s.domains[d].state = .run) {q : Port} (hq : (s.guardPorts d)[q] = true)
    (timeout : Byte) :
    s.resetDomain d .warned timeout
      = { state := s.startWarning d timeout, status := .started
          fields := [s.domains[d].serial + 1#8, portSetByte (s.guardPorts d), timeout] } := by
  have hany : ((List.finRange 6).any fun p => (s.guardPorts d)[p]) = true :=
    (anyPort_iff _).mpr ⟨q, hq⟩
  unfold State.resetDomain
  rw [hrun]
  dsimp only
  rw [if_pos hany, State.startWarning_fields]

theorem State.resetNow_eq (s : State) (d : Dom) :
    s.resetNow d = { state := (s.resetNow d).state, status := .ok, fields := [BitVec.ofNat 8 (s.sweptCount d)] } := by
  rw [← sweep_count]
  unfold State.resetNow byteOf
  dsimp only

/-- A reset at once: IMMEDIATE in RUN, or nobody to await (R96). -/
theorem State.resetDomain_resets {d : Dom} (hrun : s.domains[d].state = .run) {m : ResetMode}
    (h : m = .immediate ∨ ∀ q : Port, (s.guardPorts d)[q] = false) (timeout : Byte) :
    s.resetDomain d m timeout
      = { state := (s.resetNow d).state, status := .ok, fields := [BitVec.ofNat 8 (s.sweptCount d)] } := by
  rw [← State.resetNow_eq]
  unfold State.resetDomain
  rw [hrun]
  cases m with
  | immediate => rfl
  | warned =>
    have hnobody := h.resolve_left nofun
    have hany : ((List.finRange 6).any fun p => (s.guardPorts d)[p]) = false :=
      Bool.eq_false_of_not_eq_true fun hany =>
        let ⟨q, hq⟩ := (anyPort_iff _).mp hany
        Bool.false_ne_true ((hnobody q).symm.trans hq)
    dsimp only
    rw [if_neg (by rw [hany]; exact Bool.false_ne_true)]

/-- IMMEDIATE in WARNING (R98). -/
theorem State.resetDomain_ends {d : Dom} (hwarning : s.domains[d].state = .warning) (timeout : Byte) :
    s.resetDomain d .immediate timeout
      = { state := (s.endWarning d).1, status := .ok, fields := [BitVec.ofNat 8 (s.sweptCount d)] } := by
  rw [← endWarning_count]
  unfold State.resetDomain byteOf
  rw [hwarning]

end outcomes

section answered
variable {s : State} {p : Port} {tag : Byte} {c : Command} {rest : List Queued}

/-- The start of a warning by a command of p (R95). -/
theorem Takes.startsWarning (ht : Takes s p tag c rest) {d : Dom} {awaited : Vector Bool 6}
    (hguards : ∀ q : Port, awaited[q] = (s.subAt (domainSlot d) q).any (·.guard)) (timeout : Byte) (a : Answer) :
    GivenValue { s.answered p rest a with
        domains := s.domains.set d (s.domains[d].warned awaited timeout), warnings := s.warningsFor d timeout }
      (((s.serving p ⟨tag, c⟩).startWarning d timeout).sendAnswer p a).sendIndications (domainSlot d) 1#8 := by
  have hports : (s.serving p ⟨tag, c⟩).guardPorts d = awaited :=
    State.guardPorts_eq _ fun q => by rw [ht.serving_subAt, hguards]
  have hdomains : ((s.serving p ⟨tag, c⟩).modDomain d fun x => x.warned awaited timeout).domains
      = s.domains.set d (s.domains[d].warned awaited timeout) := by rw [State.modDomain_domains, ht.serving_domains]
  have hwarnings : ((s.serving p ⟨tag, c⟩).startWarning d timeout).warnings = s.warningsFor d timeout := by
    rw [State.startWarning_eq, ht.serving]
    rfl
  have h := ht.givenValue (k := (s.serving p ⟨tag, c⟩).modDomain d fun x => x.warned awaited timeout)
    (m := (s.serving p ⟨tag, c⟩).startWarning d timeout) (i := domainSlot d) (v := 1#8) rfl
    (by rw [State.startWarning_eq, hports]) a
  rwa [hdomains, hwarnings] at h

/-- The row of a command taken, by what its own part comes to. -/
theorem Takes.exec {act : Command → Option (State → Done)} {f : State → Done} (ht : Takes s p tag c rest)
    (ha : act c = some f) {m : State} {status : Status} {fields : List Byte}
    (hf : f (s.serving p ⟨tag, c⟩) = { state := m, status := status, fields := fields }) :
    (.next (s.takeCommand p act) : Host.Outcome State Fault Refusal)
      = .next (m.sendAnswer p { tag := tag, code := c.opcode, status := status, fields := fields }).sendIndications := by
  rw [State.takeCommand_takes s ht ha, hf]

theorem Takes.answered_serving (ht : Takes s p tag c rest) (a : Answer) :
    { s.serving p ⟨tag, c⟩ with ports := (s.answered p rest a).ports } = s.answered p rest a := by
  rw [ht.serving]
  rfl

theorem Follows.resetNow (s : State) (d : Dom) : Follows (fun i => 20 ≤ i.val ∨ i = domainSlot d) s (s.resetNow d).state := by
  have hswept := Follows.sweep s d
  unfold State.resetNow State.enterHeld
  dsimp only
  generalize (s.sweep d).1 = m at hswept ⊢
  have hheld : Follows (fun _ => False) m (m.modDomain d fun x => { x with state := .held }) := .of_domains rfl
  refine ((hswept.trans hheld fun _ _ => id).trans (.setValue _ (domainSlot d) _) fun i hi he => ?_).mono
    fun i hi => hi.imp_left (Or.elim · id False.elim)
  exact hi.elim (fun h => not_user_domainSlot (he ▸ h)) id

/-- A reset at once by a command of p (R96, R97). -/
theorem Takes.resetsNow (ht : Takes s p tag c rest) (d : Dom) (a : Answer) :
    ∃ m, SweptInto (s.answered p rest a) m d { s.domains[d] with state := .held }
      ∧ Ends s m (((s.serving p ⟨tag, c⟩).resetNow d).state.sendAnswer p a).sendIndications [] := by
  have hswept := resetNow_sweptInto (s.serving p ⟨tag, c⟩) d (s.answered p rest a).ports
  have hends := ht.ended (Follows.resetNow (s.serving p ⟨tag, c⟩) d) a
  rw [ht.answered_serving, ht.serving_domains] at hswept
  exact ⟨_, hswept, hends⟩

/-- The end of a warning by a command of p (R98, R101). -/
theorem Takes.endsWarning (ht : Takes s p tag c rest) (d : Dom) (a : Answer) :
    ∃ m, WarningEnds (s.answered p rest a) m d
      ∧ Ends s m (((s.serving p ⟨tag, c⟩).endWarning d).1.sendAnswer p a).sendIndications [] := by
  have hended := endWarning_warningEnds (s.serving p ⟨tag, c⟩) d (s.answered p rest a).ports
  have hends := ht.ended (Follows.endWarning (s.serving p ⟨tag, c⟩) d) a
  rw [ht.answered_serving] at hended
  exact ⟨_, hended, hends⟩

end answered

/-- Settles O40: the checks of R94, then the cases of Table 6-3, each by what its stages leave (`Takes.startsWarning`,
`Takes.resetsNow`, `Takes.endsWarning`). -/
theorem domainResetOutcomes : Obligations.DomainResetOutcomes := by
  unfold Obligations.DomainResetOutcomes
  intro s p tag dom mode timeout rest ht hcontrol
  have hcls := (ht.serving_cls p).trans hcontrol
  refine ⟨fun hbad => ht.bare (f := fun t => t.domainReset p dom mode timeout) rfl
    (State.domainReset_bad hcls hbad timeout), fun d awaited set hd => ?_⟩
  have hentry : (s.serving p ⟨tag, .domainReset dom mode timeout⟩).domains[d] = s.domains[d] := by rw [ht.serving_domains]
  have hcount : (s.serving p ⟨tag, .domainReset dom mode timeout⟩).sweptCount d = s.sweptCount d :=
    sweptCount_congr ht.serving_slots d
  have hguards : ∀ q, ((s.serving p ⟨tag, .domainReset dom mode timeout⟩).guardPorts d)[q]
      = (s.subAt (domainSlot d) q).any (·.guard) := fun q => by rw [guardPorts_get, guardAt_eq, ht.serving_subAt]
  have hdone : ∀ m, resetModeOf mode = some m →
      (s.serving p ⟨tag, .domainReset dom mode timeout⟩).domainReset p dom mode timeout
        = (s.serving p ⟨tag, .domainReset dom mode timeout⟩).resetDomain d m timeout := fun m hm =>
    State.domainReset_good hcls hd hm timeout
  refine ⟨fun hrun hmode hawaited ⟨q, hq⟩ hset => ?_, fun hrun hmode => ?_, fun hwarning hmode hset => ?_,
    fun hwarning hmode => ?_, fun hheld hmode => ?_⟩
  · have hports : (s.serving p ⟨tag, .domainReset dom mode timeout⟩).guardPorts d = awaited :=
      vector_ext fun q => (hguards q).trans (hawaited q).symm
    have hstarts := State.resetDomain_starts (hentry ▸ hrun) (hports ▸ hq) timeout
    rw [hentry, hports, portSetByte_eq hset] at hstarts
    exact ⟨_, _, ht.exec (f := fun t => t.domainReset p dom mode timeout) rfl
      ((hdone .warned (by rw [hmode]; rfl)).trans hstarts), rfl, ht.startsWarning hawaited timeout _⟩
  · obtain ⟨m, hm, hnobody⟩ : ∃ m : ResetMode, resetModeOf mode = some m
        ∧ (m = .immediate ∨ ∀ q : Port, ((s.serving p ⟨tag, .domainReset dom mode timeout⟩).guardPorts d)[q] = false) := by
      rcases hmode with rfl | ⟨rfl, hnobody⟩
      · exact ⟨.immediate, rfl, .inl rfl⟩
      · exact ⟨.warned, rfl, .inr fun q => (hguards q).trans (hnobody q)⟩
    have hresets := State.resetDomain_resets (hentry ▸ hrun) hnobody timeout
    rw [hcount] at hresets
    obtain ⟨k, hswept, hends⟩ := ht.resetsNow d
      { tag := tag, code := .domainReset, status := .ok, fields := [BitVec.ofNat 8 (s.sweptCount d)] }
    exact ⟨_, k, ht.exec (f := fun t => t.domainReset p dom mode timeout) rfl ((hdone m hm).trans hresets), hswept, hends⟩
  · rw [← portSetByte_eq hset]
    refine congrArg Host.Outcome.next (ht.reports (f := fun t => t.domainReset p dom mode timeout) rfl
      ((hdone .warned (by rw [hmode]; rfl)).trans ?_))
    unfold State.resetDomain
    rw [hentry, hwarning]
    rfl
  · have hended := State.resetDomain_ends (d := d) (hentry ▸ hwarning) timeout
    rw [hcount] at hended
    obtain ⟨k, hwarned, hends⟩ := ht.endsWarning d
      { tag := tag, code := .domainReset, status := .ok, fields := [BitVec.ofNat 8 (s.sweptCount d)] }
    exact ⟨_, k, ht.exec (f := fun t => t.domainReset p dom mode timeout) rfl
      ((hdone .immediate (by rw [hmode]; rfl)).trans hended), hwarned, hends⟩
  · obtain ⟨m, hm⟩ := resetModeOf_some hmode
    refine congrArg Host.Outcome.next (ht.reports (f := fun t => t.domainReset p dom mode timeout) rfl ((hdone m hm).trans ?_))
    unfold State.resetDomain
    rw [hentry, hheld]
    rfl

end Sys2Proof.Machine
end

section
/-! DOMAIN_RELEASE as it is answered (R105, R106). -/

namespace Sys2Proof.Machine

open Sys2Proof

/-! ## Each slot given the value a table has for it -/

/-- Slot i is given the value the table has for it, if it has one. -/
def State.givenFrom (table : SlotNo → Option Byte) (s : State) (i : SlotNo) : State :=
  match table i with
  | none => s
  | some v => s.setValue i v

section givenFrom
variable (table : SlotNo → Option Byte)

theorem Follows.givenFrom (s : State) (i : SlotNo) :
    Follows (fun j => j = i ∧ (table j).isSome = true) s (s.givenFrom table i) := by
  unfold State.givenFrom
  split
  · exact .refl _ s
  · next v hv =>
    refine (Follows.setValue s i v).mono fun j hj => ⟨hj, ?_⟩
    rw [hj, hv]
    rfl

theorem Follows.allGiven (l : List SlotNo) (hn : l.Nodup) (s : State) :
    Follows (fun j => j ∈ l ∧ (table j).isSome = true) s (l.foldl (State.givenFrom table) s) := by
  induction l generalizing s with
  | nil => exact .refl _ s
  | cons i l ih =>
    obtain ⟨hi, hn⟩ := List.nodup_cons.mp hn
    refine ((Follows.givenFrom table s i).trans (ih hn _) fun j hj hl => hi (hj.1 ▸ hl.1)).mono fun j hj => ?_
    rcases hj with ⟨rfl, htable⟩ | ⟨hl, htable⟩
    · exact ⟨List.mem_cons_self, htable⟩
    · exact ⟨List.mem_cons_of_mem _ hl, htable⟩

theorem givenFrom_services (s : State) (i : SlotNo) : (s.givenFrom table i).services = s.services := by
  unfold State.givenFrom
  split
  · rfl
  · exact s.setValue_services _ _

theorem allGiven_rest (l : List SlotNo) (s : State) :
    l.foldl (State.givenFrom table) s
      = { s with slots := (l.foldl (State.givenFrom table) s).slots, pins := (l.foldl (State.givenFrom table) s).pins
                 ports := (l.foldl (State.givenFrom table) s).ports } := by
  induction l generalizing s with
  | nil => rfl
  | cons i l ih =>
    have hone : s.givenFrom table i = { s with slots := (s.givenFrom table i).slots, pins := (s.givenFrom table i).pins
                                               ports := (s.givenFrom table i).ports } := by
      unfold State.givenFrom
      split
      · rfl
      · exact setValue_rest s i _
    rw [List.foldl_cons]
    have hrest := ih (s.givenFrom table i)
    generalize l.foldl (State.givenFrom table) (s.givenFrom table i) = m at hrest ⊢
    generalize s.givenFrom table i = k at hone hrest
    rw [hrest, hone]

/-- Each slot of the list has been given the value the table has for it, and no other differs. -/
theorem allGiven_slot (s : State) (i : SlotNo) :
    match table i with
    | some v => SlotGiven s ((List.finRange 128).foldl (State.givenFrom table) s) i v
    | none => ((List.finRange 128).foldl (State.givenFrom table) s).slots[i] = s.slots[i] := by
  obtain ⟨m, hserv, hbefore, hafter⟩ := (foldl_concerns (op := State.givenFrom table)
    (R := fun i s t => t.slots[i] = s.slots[i]) (Good := fun m => m.services = s.services) (fun _ _ => rfl)
    (fun _ _ _ _ h k => k.trans h) (List.finRange 128) (List.nodup_finRange 128)
    (fun t ht j _ => ⟨(givenFrom_services table t j).trans ht,
      fun k hk => (Follows.givenFrom table t j).acts.slot k fun c => hk c.1⟩) s rfl).2 i (List.mem_finRange i)
  unfold State.givenFrom at hafter
  cases hv : table i with
  | none => rw [hv] at hafter; exact hafter.trans hbefore
  | some v => rw [hv] at hafter; exact (SlotGiven.setValue m i v).between hbefore hserv hafter

end givenFrom

/-! ## The levels applied again -/

/-- No change moves the filter of a pin. -/
theorem PinsFollow.input {s t : State} (h : PinsFollow s t) (g : Pin) : t.pins[g].input = s.pins[g].input := by
  rw [h g]
  split
  · rfl
  · split <;> rfl

/-- What is applied again is read from the record's state and domain and from its pin's binding and filter. -/
theorem State.reapplied_eq (s : State) (d : Dom) (i : SlotNo) :
    s.reapplied d i = (s.slots[i].record.map Record.form).bind fun r =>
      if r.state = .live ∧ r.domain = some d then (s.boundPin i).bind fun g => (s.pins[g].applied).map (·.2) else none := by
  unfold State.reapplied
  cases s.slots[i].record with
  | none => rfl
  | some r =>
    refine if_congr Iff.rfl ?_ rfl
    cases s.boundPin i <;> rfl

/-- A value given moves nothing that the levels applied again are read from. -/
theorem setValue_reapplied (s : State) (i : SlotNo) (v : Byte) (d : Dom) : (s.setValue i v).reapplied d = s.reapplied d := by
  have hsteady := Steady.given s i v
  have happlied : ∀ g : Pin, (s.setValue i v).pins[g].applied = s.pins[g].applied := fun g => by
    unfold PinState.applied
    rw [hsteady.binding g, (Follows.setValue s i v).pins.input g]
  funext j
  rw [State.reapplied_eq, hsteady.form, boundPin_congr hsteady.binding, State.reapplied_eq]
  simp only [happlied]

theorem reapplySlot_fst (d : Dom) (acc : State × Nat) (i : SlotNo) :
    (State.reapplySlot d acc i).1 = acc.1.givenFrom (acc.1.reapplied d) i := by
  unfold State.reapplySlot State.givenFrom
  cases acc.1.reapplied d i with
  | none => rfl
  | some v =>
    dsimp only
    rw [State.setValue_eq]
    split <;> rfl

theorem givenFrom_reapplied (table : SlotNo → Option Byte) (s : State) (i : SlotNo) (d : Dom) :
    (s.givenFrom table i).reapplied d = s.reapplied d := by
  unfold State.givenFrom
  split
  · rfl
  · exact setValue_reapplied s i _ d

/-- The re-application gives each slot what it read at the beginning (R106). -/
theorem reapply_fst (s : State) (d : Dom) :
    (s.reapply d).1 = (List.finRange 128).foldl (State.givenFrom (s.reapplied d)) s := by
  have key : ∀ (l : List SlotNo) (acc : State × Nat), acc.1.reapplied d = s.reapplied d →
      (l.foldl (State.reapplySlot d) acc).1 = l.foldl (State.givenFrom (s.reapplied d)) acc.1 := by
    intro l
    induction l with
    | nil => exact fun _ _ => rfl
    | cons i l ih =>
      intro acc hacc
      have hslot := reapplySlot_fst d acc i
      rw [hacc] at hslot
      rw [List.foldl_cons, List.foldl_cons, ih, hslot]
      rw [hslot, givenFrom_reapplied, hacc]
  exact key _ (s, 0) rfl

/-- The re-application counts the records it changes (R106). -/
theorem reapply_count (s : State) (d : Dom) :
    (s.reapply d).2 = (List.finRange 128).countP fun i => (s.reapplied d i).any fun v => s.valueAt i ≠ v := by
  have hop : ∀ (acc : State × Nat) i, (State.reapplySlot d acc i).2
      = acc.2 + if (acc.1.reapplied d i).any fun v => acc.1.valueAt i ≠ v then 1 else 0 := fun acc i => by
    unfold State.reapplySlot
    cases acc.1.reapplied d i with
    | none => rfl
    | some v =>
      dsimp only [Option.any_some]
      by_cases hv : acc.1.valueAt i = v <;> simp [hv]
  have hstands : ∀ (acc : State × Nat) i j, j ≠ i →
      ((State.reapplySlot d acc i).1.reapplied d j).any (fun v => (State.reapplySlot d acc i).1.valueAt j ≠ v)
        = (acc.1.reapplied d j).any fun v => acc.1.valueAt j ≠ v := fun acc i j hj => by
    have hvalue : (acc.1.givenFrom (acc.1.reapplied d) i).valueAt j = acc.1.valueAt j :=
      valueAt_congr (by rw [(Follows.givenFrom _ acc.1 i).acts.slot j fun c => hj c.1])
    rw [reapplySlot_fst, givenFrom_reapplied]
    simp only [hvalue]
  rw [State.reapply, foldl_count (counts := fun t i => (t.reapplied d i).any fun v => t.valueAt i ≠ v) hop hstands _
    (List.nodup_finRange 128), Nat.zero_add]

/-- What the model applies again is what the statements read (R106). -/
theorem reapplied_eq_reappliedTo (s : State) (d : Dom) : s.reapplied d = s.reappliedTo d := by
  funext i
  unfold State.reapplied State.reappliedTo
  cases s.slots[i].record with
  | none => rfl
  | some r =>
    cases s.boundPin i with
    | none => exact ite_self _
    | some g =>
      dsimp only
      unfold PinState.applied
      cases s.pins[g].binding with
      | none => exact ite_self _
      | some b =>
        cases s.pins[g].input with
        | none => exact ite_self _
        | some f =>
          cases hdir : b.dir with
          | output => simp [hdir]
          | input c => simp [hdir, inputValue]

/-! ## A HELD domain released -/

/-- The state in which d is RUN again and its DOMAIN record has been given 0 (R106, stages 1 and 2). -/
def State.running (s : State) (d : Dom) : State :=
  (s.modDomain d fun x => { x with state := .run }).setValue (domainSlot d) (domStateByte .run)

theorem State.releaseHeld_eq (s : State) (d : Dom) : s.releaseHeld d = (s.running d).reapply d := rfl

theorem Follows.running (s : State) (d : Dom) : Follows (· = domainSlot d) s (s.running d) := by
  have hrun : Follows (fun _ => False) s (s.modDomain d fun x => { x with state := .run }) := .of_domains rfl
  exact (hrun.trans (.setValue _ (domainSlot d) _) fun _ h => h.elim).mono fun _ h => h.resolve_left id

theorem running_reapplied (s : State) (d : Dom) : (s.running d).reapplied d = s.reappliedTo d := by
  rw [State.running, setValue_reapplied, ← reapplied_eq_reappliedTo]
  rfl

section released
variable {s : State} {d : Dom}

/-- The DOMAIN record's own slot takes no part in the re-application, so its stage and that one touch separate slots. -/
theorem Follows.releaseHeld (hsystem : s.reappliedTo d (domainSlot d) = none) :
    Follows (fun _ => True) s (s.releaseHeld d).1 := by
  rw [State.releaseHeld_eq, reapply_fst, running_reapplied]
  refine ((Follows.running s d).trans (.allGiven (s.reappliedTo d) _ (List.nodup_finRange 128) _) fun i hi hgiven => ?_).mono
    fun _ _ => trivial
  rw [hi, hsystem] at hgiven
  exact Bool.false_ne_true hgiven.2

/-- What the release leaves, at whatever the ports are (R106). -/
theorem releaseHeld_reapplied (hsystem : s.reappliedTo d (domainSlot d) = none) (ports : Vector PortState 6) :
    Reapplied { s with ports := ports } { (s.releaseHeld d).1 with ports := ports } d := by
  have hfollows := Follows.releaseHeld hsystem
  have hrunning := Follows.running s d
  have hgiven : SlotGiven s (s.running d) (domainSlot d) 0#8 :=
    (SlotGiven.setValue (s.modDomain d fun x => { x with state := .run }) (domainSlot d) 0#8).between rfl rfl rfl
  have hfirst := setValue_rest (s.modDomain d fun x => { x with state := .run }) (domainSlot d) (domStateByte .run)
  rw [State.releaseHeld_eq, reapply_fst, running_reapplied] at hfollows ⊢
  have hslot := allGiven_slot (s.reappliedTo d) (s.running d)
  have hrest := allGiven_rest (s.reappliedTo d) (List.finRange 128) (s.running d)
  generalize (List.finRange 128).foldl (State.givenFrom (s.reappliedTo d)) (s.running d) = m at *
  have hserv : (s.running d).services = s.services := by rw [State.running, State.setValue_services]; rfl
  have hdomain := hslot (domainSlot d)
  rw [hsystem] at hdomain
  refine ⟨?_, hgiven.between rfl rfl hdomain, fun i hi => ?_, hfollows.pins⟩
  · rw [hrest, State.running, hfirst]
    rfl
  · have hbefore := hrunning.acts.slot i hi
    have hafter := hslot i
    show match s.reappliedTo d i with
      | some v => SlotGiven s m i v
      | none => m.slots[i] = s.slots[i]
    cases hv : s.reappliedTo d i with
    | none => rw [hv] at hafter; exact hafter.trans hbefore
    | some v => rw [hv] at hafter; exact hafter.between hbefore hserv rfl

/-- The count the release answers with (R106). -/
theorem releaseHeld_count (hsystem : s.reappliedTo d (domainSlot d) = none) : (s.releaseHeld d).2 = s.reappliedCount d := by
  rw [State.releaseHeld_eq, reapply_count, running_reapplied, State.reappliedCount]
  refine List.countP_congr fun i _ => ?_
  by_cases hi : i = domainSlot d
  · rw [hi, hsystem]
    rfl
  · have hvalue : (s.running d).valueAt i = s.valueAt i := valueAt_congr (by rw [(Follows.running s d).acts.slot i hi])
    rw [hvalue]

end released

/-! ## The command -/

/-- The entry of a domain whose warning is cancelled (R105). -/
def DomainEntry.cancelled (x : DomainEntry) : DomainEntry :=
  { state := .run, awaited := Vector.replicate 6 false, serial := x.serial, timeout := 0#8 }

/-- A DOMAIN record belongs to no domain, so nothing is applied to it again. -/
theorem SystemsHold.reappliedTo_none {s : State} (h : SystemsHold s) (d : Dom) : s.reappliedTo d (domainSlot d) = none := by
  obtain ⟨r, hr, -, -, -, hdomain, -⟩ := h.record (i := domainSlot d) (by rw [domainSlot_val]; omega)
  rw [← reapplied_eq_reappliedTo]
  refine Option.eq_none_iff_forall_not_mem.mpr fun v hv => ?_
  obtain ⟨r', -, hr', -, hd, -⟩ := State.reapplied_some hv
  rw [hr, Option.some.injEq] at hr'
  rw [← hr', hdomain] at hd
  cases hd

section answered
variable {s : State} {p : Port} {tag : Byte} {c : Command} {rest : List Queued}

/-- A good domain goes by its state (R105, R106). -/
theorem State.domainRelease_good (hcls : s.ports[p].cls = .control) {dom : Byte} {d : Dom} (hd : dom.toNat = d.val) :
    s.domainRelease p dom = s.releaseDomain d := by
  rw [State.domainRelease, controlOnly_control hcls, domOf_val hd]

theorem State.domainRelease_bad (hcls : s.ports[p].cls = .control) {dom : Byte} (h : 8 ≤ dom.toNat) :
    s.domainRelease p dom = refuse s .badParam := by
  rw [State.domainRelease, controlOnly_control hcls, domOf_none h]

/-- A HELD domain is released, and the answer carries how many records changed (R106). -/
theorem State.releaseDomain_held {d : Dom} (hheld : s.domains[d].state = .held)
    (hsystem : s.reappliedTo d (domainSlot d) = none) :
    s.releaseDomain d
      = { state := (s.releaseHeld d).1, status := .ok, fields := [0x02#8, BitVec.ofNat 8 (s.reappliedCount d)] } := by
  rw [← releaseHeld_count hsystem]
  unfold State.releaseDomain
  rw [hheld]
  rfl

theorem Takes.choice (ht : Takes s p tag c rest) : s.choice = some (.command p { tag := tag, command := c }) := by
  obtain ⟨hchoice, -⟩ := ht
  exact hchoice

/-- The cancelling of a warning by a command of p (R105). -/
theorem Takes.cancelsWarning (ht : Takes s p tag c rest) (d : Dom) (a : Answer) :
    GivenValue { s.answered p rest a with
        domains := s.domains.set d s.domains[d].cancelled
        warnings := s.warnings.set d { s.warnings[d] with timer := none } }
      (((s.serving p ⟨tag, c⟩).cancelWarning d).sendAnswer p a).sendIndications (domainSlot d) 0#8 := by
  have hgiven := ht.givenValue (k := ((s.serving p ⟨tag, c⟩).cancelWarningTimer d).modDomain d DomainEntry.cancelled)
    (m := (s.serving p ⟨tag, c⟩).cancelWarning d) (i := domainSlot d) (v := 0#8) rfl rfl a
  have hdomains : (((s.serving p ⟨tag, c⟩).cancelWarningTimer d).modDomain d DomainEntry.cancelled).domains
      = s.domains.set d s.domains[d].cancelled := by
    rw [ht.serving]
    rfl
  have hwarnings : ((s.serving p ⟨tag, c⟩).cancelWarning d).warnings
      = s.warnings.set d { s.warnings[d] with timer := none } := by
    unfold State.cancelWarning
    dsimp only
    rw [State.setValue_warnings, ht.serving]
    rfl
  rwa [hdomains, hwarnings] at hgiven

/-- The release of a HELD domain by a command of p (R106). -/
theorem Takes.releasesHeld (ht : Takes s p tag c rest) {d : Dom} (hsystem : s.reappliedTo d (domainSlot d) = none)
    (a : Answer) :
    ∃ m, Reapplied (s.answered p rest a) m d
      ∧ Ends s m (((s.serving p ⟨tag, c⟩).releaseHeld d).1.sendAnswer p a).sendIndications [] := by
  have hsystem' : (s.serving p ⟨tag, c⟩).reappliedTo d (domainSlot d) = none := by rw [ht.serving]; exact hsystem
  have hreapplied := releaseHeld_reapplied hsystem' (s.answered p rest a).ports
  have hends := ht.ended (Follows.releaseHeld hsystem') a
  rw [ht.answered_serving] at hreapplied
  exact ⟨_, hreapplied, hends⟩

end answered

/-- Settles O41: the check of the domain, then its state: a warning is cancelled (`Takes.cancelsWarning`), a HELD domain
released with its levels applied again (`Takes.releasesHeld`). -/
theorem domainReleaseOutcomes : Obligations.DomainReleaseOutcomes := by
  unfold Obligations.DomainReleaseOutcomes
  intro s p tag dom rest ht hcontrol hsystems
  have hcls := (ht.serving_cls p).trans hcontrol
  refine ⟨fun hbad => ht.bare (f := fun t => t.domainRelease p dom) rfl (State.domainRelease_bad hcls hbad), fun d hd => ?_⟩
  have hentry : (s.serving p ⟨tag, .domainRelease dom⟩).domains[d] = s.domains[d] := by rw [ht.serving_domains]
  have hdone := State.domainRelease_good hcls hd
  refine ⟨fun hrun => ?_, fun hwarning => ?_, fun hheld => ?_⟩
  · refine congrArg Host.Outcome.next (ht.reports (f := fun t => t.domainRelease p dom) rfl (hdone.trans ?_))
    unfold State.releaseDomain
    rw [hentry, hrun]
    rfl
  · refine ⟨_, ht.exec (f := fun t => t.domainRelease p dom) rfl (hdone.trans ?_), ht.cancelsWarning d _⟩
    unfold State.releaseDomain
    rw [hentry, hwarning]
    rfl
  · have hsystem := SystemsHold.reappliedTo_none (hsystems (rstLow_of_choice ht.choice)) d
    have hreleased := State.releaseDomain_held (s := s.serving p ⟨tag, .domainRelease dom⟩) (hentry ▸ hheld)
      (by rw [ht.serving]; exact hsystem)
    have hcount : (s.serving p ⟨tag, .domainRelease dom⟩).reappliedCount d = s.reappliedCount d := by rw [ht.serving]; rfl
    rw [hcount] at hreleased
    obtain ⟨m, hreapplied, hends⟩ := ht.releasesHeld hsystem
      { tag := tag, code := .domainRelease, status := .ok, fields := [0x02#8, BitVec.ofNat 8 (s.reappliedCount d)] }
    exact ⟨_, m, ht.exec (f := fun t => t.domainRelease p dom) rfl (hdone.trans hreleased), hreapplied, hends⟩

end Sys2Proof.Machine
end

section
/-! Every stage of every row keeps each OUTPUT-bound pin at the level its record's value gives (R116): a change drives the pin of
its record, a retirement unbinds it, a DRAINING record has none, and every other stage leaves values and drivers alone. -/

namespace Sys2Proof.Machine

open Sys2Proof

/-! ## What every stage keeps -/

/-- Each record is bound to at most one pin; a bound record is LIVE, and an OUTPUT-bound pin is driven at the level the record's
value gives (R109, R116). -/
structure RecordsDrive (s : State) : Prop where
  once : BoundOnce s
  drives : ∀ (g : Pin) (b : Binding), s.pins[g].binding = some b →
    ∃ r, s.slots[b.slot].record = some r ∧ r.state = .live
      ∧ (b.dir = .output → s.pins[g].driver = .driving (driveLevel b.active r.value))

theorem RecordsDrive.of_bindings {s : State} (hb : BindingsStand s) (ho : OutputsFollow s) : RecordsDrive s := by
  refine ⟨hb.boundOnce, fun g b hg => ?_⟩
  obtain ⟨hholds, -⟩ := hb
  obtain ⟨r, hr, hl, -⟩ := (hholds g b hg).record
  refine ⟨r, hr, hl, fun hd => ?_⟩
  rw [ho g b hg hd, State.valueAt, hr]

theorem RecordsDrive.outputsFollow {s : State} (hs : RecordsDrive s) : OutputsFollow s := by
  intro g b hg hd
  obtain ⟨r, hr, -, hdriver⟩ := hs.drives g b hg
  rw [hdriver hd, State.valueAt, hr]

/-- From s to t, a LIVE record in slot i is LIVE still and has its value. -/
def LiveKept (s t : State) (i : SlotNo) : Prop :=
  ∀ r, s.slots[i].record = some r → r.state = .live →
    ∃ r', t.slots[i].record = some r' ∧ r'.state = .live ∧ r'.value = r.value

theorem LiveKept.of_record {s t : State} {i : SlotNo} (h : t.slots[i].record = s.slots[i].record) : LiveKept s t i :=
  fun r hr hl => ⟨r, h.trans hr, hl, rfl⟩

/-- No pin has come to be bound, and those still bound have their driver and their record's value. -/
theorem RecordsDrive.kept {s t : State} (hs : RecordsDrive s)
    (h : ∀ (g : Pin) (b : Binding), t.pins[g].binding = some b →
      s.pins[g].binding = some b ∧ t.pins[g].driver = s.pins[g].driver ∧ LiveKept s t b.slot) : RecordsDrive t := by
  refine ⟨fun g g' b hb c hc => hs.once g g' b (h g b hb).1 c (h g' c hc).1, fun g b hb => ?_⟩
  obtain ⟨hbefore, hdriver, hkept⟩ := h g b hb
  obtain ⟨r, hr, hl, hlevel⟩ := hs.drives g b hbefore
  obtain ⟨r', hr', hl', hv⟩ := hkept r hr hl
  exact ⟨r', hr', hl', fun hd => by rw [hdriver, hlevel hd, hv]⟩

theorem RecordsDrive.of_records {s t : State} (hs : RecordsDrive s) (hp : t.pins = s.pins) (hr : ∀ i, LiveKept s t i) :
    RecordsDrive t :=
  hs.kept fun g b hb => by rw [hp] at hb ⊢; exact ⟨hb, rfl, hr b.slot⟩

theorem RecordsDrive.stands {s t : State} (hs : RecordsDrive s) (h : Stands s t) : RecordsDrive t :=
  hs.kept fun g b hb => by
    obtain ⟨hbinding, -, hdriver⟩ := h.pins g
    exact ⟨hbinding ▸ hb, hdriver, .of_record (by rw [h.slots])⟩

/-- No pin is bound, and none comes to be. -/
theorem RecordsDrive.of_unbound {s : State} (h : ∀ g : Pin, s.pins[g].binding = none) : RecordsDrive s := by
  refine ⟨fun g _ b hb => ?_, fun g b hb => ?_⟩
  · exact absurd hb (by rw [h g]; exact nofun)
  · exact absurd hb (by rw [h g]; exact nofun)

/-! ## Operations on one record -/

section record
variable {s : State} {i : SlotNo}

/-- The pin of a record that changes is driven from the new value (R28). -/
theorem RecordsDrive.change (hs : RecordsDrive s) (i : SlotNo) (v : Byte) (n : Nat) : RecordsDrive (s.change i v n) := by
  have hbinding := (Steady.change s i v n).binding
  refine ⟨fun g g' b hb c hc => hs.once g g' b (hbinding g ▸ hb) c (hbinding g' ▸ hc), fun g b hb => ?_⟩
  rw [hbinding] at hb
  obtain ⟨r, hr, hl, hlevel⟩ := hs.drives g b hb
  have hpin := s.change_pin i v n g
  simp only [hb] at hpin
  rw [State.change_record, hpin]
  by_cases hi : b.slot = i
  · subst hi
    refine ⟨r.changed s b.slot v n, by rw [if_pos rfl, hr, Option.map_some], hl, fun hd => ?_⟩
    rw [if_pos ⟨hd, s.boundPin_of_binding hs.once hb, by rw [hr]; rfl⟩]
    rfl
  · have hother : s.boundPin i ≠ some g := fun hg => by
      obtain ⟨c, hc, hslot⟩ := State.boundPin_some s hg
      rw [hb, Option.some.injEq] at hc
      exact hi (hc ▸ hslot)
    rw [if_neg hi, if_neg fun hc => hother hc.2.1]
    exact ⟨r, hr, hl, hlevel⟩

theorem RecordsDrive.setValue (hs : RecordsDrive s) (i : SlotNo) (v : Byte) : RecordsDrive (s.setValue i v) := by
  rw [State.setValue_eq]
  split
  · exact hs
  · exact hs.change i v 0

/-- State and value are left as they are. -/
theorem RecordsDrive.modRecord (hs : RecordsDrive s) (i : SlotNo) {f : Record → Record} (hstate : ∀ r, (f r).state = r.state)
    (hvalue : ∀ r, (f r).value = r.value) : RecordsDrive (s.modRecord i f) := by
  refine hs.of_records rfl fun j r hr hl => ?_
  rw [State.modRecord_record]
  split
  · next hj => exact ⟨f r, by rw [← hj, hr, Option.map_some], (hstate r).trans hl, hvalue r⟩
  · exact ⟨r, hr, hl, rfl⟩

theorem RecordsDrive.owned (hs : RecordsDrive s) (i : SlotNo) (o : Owner) :
    RecordsDrive (s.modRecord i fun r => { r with owner := o }) := hs.modRecord i (fun _ => rfl) fun _ => rfl

theorem RecordsDrive.updSub (hs : RecordsDrive s) (i : SlotNo) (p : Port) (f : Option Sub → Option Sub) :
    RecordsDrive (s.updSub i p f) := by
  refine hs.of_records (s.updSub_pins i p f) fun j r hr hl => ?_
  rw [State.updSub_record]
  split
  · next hj => exact ⟨{ r with subs := r.subs.set p (f r.subs[p]) }, by rw [← hj, hr, Option.map_some], hl, rfl⟩
  · exact ⟨r, hr, hl, rfl⟩

theorem RecordsDrive.heldEvaluation (hs : RecordsDrive s) (i : SlotNo) (p : Port) : RecordsDrive (s.heldEvaluation i p) :=
  hs.updSub i p _

/-- What leaves a DRAINING record touches no LIVE one (R19). -/
theorem RecordsDrive.removeDraining (hs : RecordsDrive s) (h : s.isDraining i = true) (p : Port) :
    RecordsDrive (s.removeDraining i p) := by
  refine hs.of_records (s.removeDraining_pins i p) fun j => ?_
  by_cases hj : j = i
  · obtain ⟨r, hr, hdraining⟩ := (isDraining_iff s i).mp h
    intro r' hr' hl
    rw [hj, hr, Option.some.injEq] at hr'
    rw [← hr', hdraining] at hl
    cases hl
  · exact .of_record (by rw [(ActsOn.removeDraining s i p).slot j hj])

/-- The pin of a record that is retired is unbound (R16, R17). -/
theorem RecordsDrive.retireRecord (hs : RecordsDrive s) {r : Record} (hr : s.slots[i].record = some r) :
    RecordsDrive (s.retireRecord i) := by
  refine hs.kept fun g b hb => ?_
  have hpin := s.retireRecord_pin i r hs.once hr g
  split at hpin
  · rw [hpin] at hb
    cases hb
  · next hother =>
    have hbefore : s.pins[g].binding = some b := by
      rw [← hpin]
      exact hb
    have hslot : b.slot ≠ i := fun hi => hother (by rw [hbefore]; exact decide_eq_true hi)
    exact ⟨hbefore, congrArg PinState.driver hpin, .of_record (by rw [s.retireRecord_other hr hslot])⟩

/-- A pin without a binding is bound to a LIVE record that no pin is bound to; for OUTPUT it is driven from the value (R115). -/
theorem RecordsDrive.bound {t : State} (hs : RecordsDrive s) {g : Pin} {b : Binding} {r : Record}
    (hr : s.slots[b.slot].record = some r) (hl : r.state = .live) (hg : s.pins[g].binding = none)
    (hi : s.boundPin b.slot = none) (hb : t.pins[g].binding = some b)
    (hd : b.dir = .output → t.pins[g].driver = .driving (driveLevel b.active r.value))
    (hp : ∀ g', g' ≠ g → t.pins[g'] = s.pins[g']) (hkept : ∀ j, LiveKept s t j) : RecordsDrive t := by
  have hcase : ∀ (g' : Pin) (c : Binding), t.pins[g'].binding = some c →
      (g' = g ∧ c = b) ∨ (s.pins[g'].binding = some c ∧ t.pins[g'] = s.pins[g']) := fun g' c hc => by
    by_cases hgg : g' = g
    · subst hgg
      exact .inl ⟨rfl, Option.some.inj (hc.symm.trans hb)⟩
    · rw [hp g' hgg] at hc
      exact .inr ⟨hc, hp g' hgg⟩
  have hfree := State.boundPin_none s hi
  refine ⟨fun g₁ g₂ c₁ h₁ c₂ h₂ he => ?_, fun g' c hc => ?_⟩
  · rcases hcase g₁ c₁ h₁ with ⟨rfl, rfl⟩ | ⟨h₁, -⟩
    · rcases hcase g₂ c₂ h₂ with ⟨rfl, -⟩ | ⟨h₂, -⟩
      · rfl
      · exact absurd he.symm (hfree g₂ c₂ h₂)
    · rcases hcase g₂ c₂ h₂ with ⟨-, rfl⟩ | ⟨h₂, -⟩
      · exact absurd he (hfree g₁ c₁ h₁)
      · exact hs.once g₁ g₂ c₁ h₁ c₂ h₂ he
  · rcases hcase g' c hc with ⟨rfl, rfl⟩ | ⟨hc, hpin⟩
    · obtain ⟨r', hr', hl', hv⟩ := hkept _ r hr hl
      exact ⟨r', hr', hl', fun h => by rw [hd h, hv]⟩
    · obtain ⟨x, hx, hlx, hlevel⟩ := hs.drives g' c hc
      obtain ⟨x', hx', hlx', hv⟩ := hkept _ x hx hlx
      exact ⟨x', hx', hlx', fun h => by rw [hpin, hlevel h, hv]⟩

/-- A binding ends (R120). -/
theorem RecordsDrive.unbindFrom (hs : RecordsDrive s) (g : Pin) (b : Binding) : RecordsDrive (s.unbindFrom g b) := by
  have hunbound : RecordsDrive (s.modPin g PinState.unbound) := hs.kept fun g' c hc => by
    rw [State.modPin_get] at hc ⊢
    split at hc
    · cases hc
    · next hg =>
      rw [if_neg hg]
      exact ⟨hc, rfl, .of_record rfl⟩
  unfold State.unbindFrom
  split
  · exact hunbound.owned b.slot .nobody
  · exact hunbound

end record

/-! ## Operations of several stages -/

section stages
variable {s : State}

theorem RecordsDrive.modService (hs : RecordsDrive s) (p : Port) (f : Service → Service) : RecordsDrive (s.modService p f) :=
  hs.of_records rfl fun _ => .of_record rfl

theorem RecordsDrive.modDomain (hs : RecordsDrive s) (d : Dom) (f : DomainEntry → DomainEntry) :
    RecordsDrive (s.modDomain d f) :=
  hs.of_records rfl fun _ => .of_record rfl

theorem RecordsDrive.modPort (hs : RecordsDrive s) (p : Port) (f : PortState → PortState) : RecordsDrive (s.modPort p f) :=
  hs.of_records rfl fun _ => .of_record rfl

theorem RecordsDrive.owe (hs : RecordsDrive s) (p : Port) : RecordsDrive (s.owe p) := hs.modPort p _

theorem RecordsDrive.sweep (hs : RecordsDrive s) (d : Dom) : RecordsDrive (s.sweep d).1 := by
  rw [sweep_fst]
  refine List.foldlRecOn userSlots _ hs fun t ht i _ => ?_
  unfold State.sweptAt
  split
  · exact ht
  · exact ht.setValue i _

theorem RecordsDrive.enterHeld (hs : RecordsDrive s) (d : Dom) : RecordsDrive (s.enterHeld d) :=
  (hs.modDomain d _).setValue (domainSlot d) _

theorem RecordsDrive.endWarning (hs : RecordsDrive s) (d : Dom) : RecordsDrive (s.endWarning d).1 := by
  unfold State.endWarning
  dsimp only
  exact ((((hs.stands (.cancelWarningTimer s d)).modDomain d _).sweep d).modDomain d _).enterHeld d

theorem RecordsDrive.depart (hs : RecordsDrive s) (d : Dom) (p : Port) : RecordsDrive (s.depart d p) := by
  rw [depart_eq]
  split
  · exact (hs.modDomain d _).endWarning d
  · split
    · exact hs.modDomain d _
    · exact hs

theorem RecordsDrive.departOn (hs : RecordsDrive s) (i : SlotNo) (p : Port) : RecordsDrive (s.departOn i p) := by
  unfold State.departOn
  split
  · exact hs
  · exact hs.depart _ p

theorem RecordsDrive.entryGone (hs : RecordsDrive s) (p : Port) (i : SlotNo) :
    RecordsDrive ((s.cancelFor p i).removeEntry p i) := (hs.stands (.cancelFor s p i)).modService p _

end stages

/-! ## Internal requests -/

section requests
variable {s : State}

theorem RecordsDrive.dropEntry (hs : RecordsDrive s) (p : Port) (e : Entry) : RecordsDrive (State.dropEntry p s e) := by
  unfold State.dropEntry
  dsimp only
  split
  · next hd => exact (hs.entryGone p e.slot).removeDraining hd p
  · exact hs.entryGone p e.slot

theorem RecordsDrive.attended (hs : RecordsDrive s) (p : Port) : RecordsDrive (s.attended p) := by
  have hdropped : RecordsDrive (s.dropService p) := List.foldlRecOn _ _ hs fun t ht e _ => ht.dropEntry p e
  have hsettled : RecordsDrive ((s.dropService p).settleSubs p) := List.foldlRecOn _ _ hdropped fun t ht i _ => by
    rcases settleSub_cases p t i with h | ⟨f, h⟩
    · rw [h]
      exact ht
    · rw [h]
      exact ht.updSub i p f
  unfold State.attended State.resetAttention
  exact hsettled.modService p _

theorem RecordsDrive.orphanRecords (hs : RecordsDrive s) (p : Port) : RecordsDrive (s.orphanRecords p) := by
  refine List.foldlRecOn userSlots _ hs fun t ht i _ => ?_
  rcases orphanSlot_cases p t i with h | ⟨r, hr, h | h⟩
  · rw [h]
    exact ht
  · rw [h]
    exact ht.retireRecord hr
  · rw [h]
    exact (ht.owned i .nobody).setValue i _

theorem RecordsDrive.teardown (hs : RecordsDrive s) (p : Port) : RecordsDrive (s.teardown p) := by
  have hdeparted : RecordsDrive (s.departed p) := List.foldlRecOn _ _ (hs.attended p) fun t ht d _ => ht.depart d p
  rw [teardown_eq]
  unfold State.completeTeardown State.tornDown State.settleSystemRecords State.orphaned
  exact ((((hdeparted.orphanRecords p).setValue (overdueSlot p) _).setValue (linkSlot p) _).modPort p _).owe p

theorem RecordsDrive.expire (hs : RecordsDrive s) (p : Port) (f : DeadlineFlag) : RecordsDrive (s.expire p f) := by
  unfold State.expire
  split
  · exact (hs.modService p _).setValue (overdueSlot p) _
  · exact hs

theorem RecordsDrive.warningExpires (hs : RecordsDrive s) (d : Dom) (serial : Byte) :
    RecordsDrive (s.warningExpires d serial) := by
  unfold State.warningExpires
  split
  · exact hs.endWarning d
  · exact hs

theorem RecordsDrive.pinUpdates (hs : RecordsDrive s) (g : Pin) (serial : Byte) : RecordsDrive (s.pinUpdates g serial) := by
  unfold State.pinUpdates
  split
  · split
    · exact hs
    · split
      · exact hs
      · exact hs.setValue _ _
  · exact hs

theorem RecordsDrive.carryOutRequest (hs : RecordsDrive s) (r : Taking) : RecordsDrive (s.carryOutRequest r) := by
  cases r with
  | teardown p => exact hs.teardown p
  | notice p v => exact hs.setValue (linkSlot p) _
  | deadline p k f => exact hs.expire p f
  | warning d serial => exact hs.warningExpires d serial
  | pinUpdate g serial => exact hs.pinUpdates g serial
  | command p q => exact hs

end requests

end Sys2Proof.Machine
end

section
/-! Every command, and so every row, keeps each OUTPUT-bound pin at the level its record's value gives (R116). -/

namespace Sys2Proof.Machine

open Sys2Proof

/-! ## The handle check -/

/-- What passes the handle check of a command that no DRAINING record passes is LIVE (R6). -/
theorem State.checkHandle_live {s : State} {h : Handle} {x : SlotNo × Record} (hc : s.checkHandle false h = .ok x) :
    x.2.state = .live := by
  rw [State.checkHandle_spec] at hc
  split at hc
  · split at hc
    · cases hc
    · next r _ =>
      split at hc
      · cases hc
      · split at hc
        · cases hc
        · next hdraining =>
          cases hc
          cases hstate : r.state with
          | live => rfl
          | draining => exact absurd ⟨hstate, rfl⟩ hdraining
  · cases hc

/-- As `withHandle_keeps`, of a command that no DRAINING record passes. -/
theorem withHandle_keeps_live {K : State → Prop} {s : State} {h : Handle} {act : SlotNo → Record → Done} (hs : K s)
    (hact : ∀ i r, s.slots[i].record = some r → r.state = .live → K (act i r).state) : K (s.withHandle false h act).state := by
  unfold State.withHandle
  cases hc : s.checkHandle false h with
  | error e => exact hs
  | ok x => exact hact x.1 x.2 (State.checkHandle_record hc) (State.checkHandle_live hc)

/-! ## Commands on records -/

section directory
variable {s : State}

/-- A DECLARE fills a FREE slot (R13). -/
theorem RecordsDrive.declare (hs : RecordsDrive s) (p : Port) (id : Half) (kind init dflt dom policy : Byte) :
    RecordsDrive (s.declare p id kind init dflt dom policy).state := by
  rcases s.declare_cases p id kind init dflt dom policy with h | ⟨i, r, h⟩
  · rw [h]
    exact hs
  · refine hs.of_records h.pins fun j x hx hl => ?_
    have hj : j ≠ i := fun hj => by
      rw [hj, h.free] at hx
      cases hx
    exact ⟨x, by rw [h.record, if_neg hj, hx], hl, rfl⟩

theorem RecordsDrive.retire (hs : RecordsDrive s) (p : Port) (h : Handle) : RecordsDrive (s.retire p h).state := by
  refine withHandle_keeps hs fun i r hr => refusedIf_keeps hs fun _ => refusedIf_keeps hs fun _ => ?_
  split
  · dsimp only
    exact hs.retireRecord hr
  · exact hs

theorem RecordsDrive.claim (hs : RecordsDrive s) (p : Port) (h : Handle) : RecordsDrive (s.claim p h).state := by
  refine withHandle_keeps hs fun i r _ => refusedIf_keeps hs fun _ => refusedIf_keeps hs fun _ => ?_
  split
  · exact hs.owned i _
  · split <;> exact hs
  · exact hs
  · exact hs

theorem RecordsDrive.lookup (hs : RecordsDrive s) (id : Half) : RecordsDrive (s.lookup id).state := by
  unfold State.lookup
  split
  · exact hs
  · split <;> exact hs

theorem RecordsDrive.lock (hs : RecordsDrive s) (p : Port) (h : Handle) : RecordsDrive (s.lock p h).state :=
  controlOnly_keeps hs (withHandle_keeps hs fun i _ _ => refusedIf_keeps hs fun _ => refusedIf_keeps hs fun _ =>
    hs.modRecord i (fun _ => rfl) fun _ => rfl)

theorem RecordsDrive.writeValue (hs : RecordsDrive s) (i : SlotNo) (r : Record) (v : Byte) :
    RecordsDrive (s.writeValue i r v).state := by
  unfold State.writeValue
  split
  · exact hs
  · exact hs.change i v 0

theorem RecordsDrive.set (hs : RecordsDrive s) (p : Port) (h : Handle) (v : Byte) : RecordsDrive (s.set p h v).state := by
  refine withHandle_keeps hs fun i r _ => refusedIf_keeps hs fun _ => ?_
  split
  · exact hs
  · exact hs.writeValue i r v

theorem RecordsDrive.setIf (hs : RecordsDrive s) (p : Port) (h : Handle) (e : Half) (v : Byte) :
    RecordsDrive (s.setIf p h e v).state := by
  refine withHandle_keeps hs fun i r _ => refusedIf_keeps hs fun _ => ?_
  split
  · exact hs
  · split
    · exact hs
    · exact hs.writeValue i r v

theorem RecordsDrive.raise (hs : RecordsDrive s) (p : Port) (h : Handle) (n : Byte) : RecordsDrive (s.raise p h n).state := by
  refine withHandle_keeps hs fun i r _ => refusedIf_keeps hs fun _ => refusedIf_keeps hs fun _ => ?_
  split
  · exact hs
  · exact hs.change i _ _

end directory

/-! ## Commands on subscriptions and service entries -/

section attention
variable {s : State}

theorem RecordsDrive.createSub (hs : RecordsDrive s) (i : SlotNo) (p : Port) (new : Sub) :
    RecordsDrive (s.createSub i p new) := (hs.updSub i p _).heldEvaluation i p

theorem RecordsDrive.subscribe (hs : RecordsDrive s) (p : Port) (h : Handle) (prio cond m mode cls attrs : Byte) :
    RecordsDrive (s.subscribe p h prio cond m mode cls attrs).state := by
  refine withHandle_keeps hs fun i r _ => ?_
  split
  · exact hs
  · next new _ =>
    have hcreated := hs.createSub i p new
    split
    · refine refusedIf_keeps hs fun _ => ?_
      dsimp only [State.replaceSub]
      split
      · exact hcreated.departOn i p
      · exact hcreated
    · exact refusedIf_keeps hs fun _ => hcreated

theorem RecordsDrive.unsubscribe (hs : RecordsDrive s) (p : Port) (h : Handle) : RecordsDrive (s.unsubscribe p h).state := by
  refine withHandle_keeps hs fun i r _ => ?_
  split
  · exact hs
  · refine refusedIf_keeps hs fun _ => ?_
    dsimp only [State.unsubscribeSub]
    split
    · exact (hs.updSub i p _).departOn i p
    · exact hs.updSub i p _

theorem RecordsDrive.acquire (hs : RecordsDrive s) (p : Port) : RecordsDrive (s.acquire p).state := by
  rcases s.acquire_cases p with h | ⟨i, r, u, -, -, h⟩
  · rw [h]
    exact hs
  · rw [h]
    unfold State.takeIntoService
    exact ((((hs.modService p _).updSub i p _).modService p _).stands (.startDeadline _ p _ i _ _)).owe p

theorem RecordsDrive.endEntry (hs : RecordsDrive s) (p : Port) (e : Entry) : RecordsDrive (s.endEntry p e) := by
  have hback : ∀ t, RecordsDrive t → RecordsDrive (t.overdueBack p e) := fun t ht => by
    unfold State.overdueBack
    split
    · exact ht.setValue _ _
    · exact ht
  have hreleased : ∀ t, RecordsDrive t → RecordsDrive (t.releaseSub e.slot p) := fun t ht => by
    unfold State.releaseSub
    split
    · next hd => exact ht.removeDraining hd p
    · exact ht.heldEvaluation e.slot p
  have hgone := hreleased _ (hback _ (hs.entryGone p e.slot))
  unfold State.endEntry State.acknowledge
  dsimp only
  split
  · exact (hgone.departOn e.slot p).owe p
  · exact hgone.owe p

theorem RecordsDrive.release (hs : RecordsDrive s) (p : Port) (h : Handle) : RecordsDrive (s.release p h).state := by
  refine withHandle_keeps hs fun i r _ => ?_
  split
  · exact hs
  · exact hs.endEntry p _

theorem RecordsDrive.releaseTop (hs : RecordsDrive s) (p : Port) : RecordsDrive (s.releaseTop p).state := by
  unfold State.releaseTop
  split
  · exact hs
  · exact hs.endEntry p _

theorem RecordsDrive.setThreshold (hs : RecordsDrive s) (p : Port) (t : Byte) : RecordsDrive (s.setThreshold p t).state := by
  unfold State.setThreshold
  split
  · exact (hs.modService p _).owe p
  · exact hs

end attention

/-! ## Commands on domains, and EVICT -/

section domains
variable {s : State}

theorem RecordsDrive.startWarning (hs : RecordsDrive s) (d : Dom) (timeout : Byte) :
    RecordsDrive (s.startWarning d timeout) := by
  unfold State.startWarning
  dsimp only
  exact ((hs.modDomain d _).setValue (domainSlot d) _).stands (.startWarningTimer _ d _ _)

theorem RecordsDrive.resetNow (hs : RecordsDrive s) (d : Dom) : RecordsDrive (s.resetNow d).state := by
  unfold State.resetNow
  dsimp only
  exact (hs.sweep d).enterHeld d

theorem RecordsDrive.domainReset (hs : RecordsDrive s) (p : Port) (dom mode timeout : Byte) :
    RecordsDrive (s.domainReset p dom mode timeout).state := by
  refine controlOnly_keeps hs ?_
  split
  · next d m _ _ =>
    unfold State.resetDomain
    split
    · split
      · exact hs.startWarning d timeout
      · exact hs.resetNow d
    · exact hs.resetNow d
    · exact hs
    · dsimp only
      exact hs.endWarning d
    · exact hs
  · exact hs

theorem RecordsDrive.reapply (hs : RecordsDrive s) (d : Dom) : RecordsDrive (s.reapply d).1 := by
  unfold State.reapply
  refine List.foldlRecOn (motive := fun acc : State × Nat => RecordsDrive acc.1) _ _ hs fun acc hacc i _ => ?_
  unfold State.reapplySlot
  split
  · exact hacc
  · split
    · exact hacc
    · exact hacc.change i _ 0

theorem RecordsDrive.domainRelease (hs : RecordsDrive s) (p : Port) (dom : Byte) :
    RecordsDrive (s.domainRelease p dom).state := by
  refine controlOnly_keeps hs ?_
  split
  · exact hs
  · next d _ =>
    unfold State.releaseDomain
    split
    · exact hs
    · dsimp only [State.cancelWarning]
      exact ((hs.stands (.cancelWarningTimer s d)).modDomain d _).setValue (domainSlot d) _
    · dsimp only [State.releaseHeld]
      exact ((hs.modDomain d _).setValue (domainSlot d) _).reapply d

theorem RecordsDrive.evict (hs : RecordsDrive s) (p : Port) (port : Byte) : RecordsDrive (s.evict p port).state := by
  refine controlOnly_keeps hs ?_
  split
  · exact hs
  · refine refusedIf_keeps hs fun _ => refusedIf_keeps hs fun _ => ?_
    dsimp only
    exact hs.modPort _ _

end domains

/-! ## Commands on pins -/

section pins
variable {s : State}

/-- An INPUT binding drives nothing (R114). -/
theorem RecordsDrive.bindInput (hs : RecordsDrive s) {g : Pin} {i : SlotNo} {r : Record} (hr : s.slots[i].record = some r)
    (hl : r.state = .live) (hg : s.pins[g].binding = none) (hi : s.boundPin i = none) (f : Fin 16) (a : Level)
    (found : Option Level) : RecordsDrive (s.bindInput g i f a found) := by
  have hpin := fun g' => s.inputBinding_pin g g' i f a (foundLevel s.samples g found .highZ)
  have hbound : RecordsDrive (s.inputBinding g i f a (foundLevel s.samples g found .highZ)) := by
    refine hs.bound (b := { slot := i, dir := .input f, active := a, serial := s.pins[g].serialCounter + 1#8 }) hr hl hg hi
      (by rw [hpin, if_pos rfl]; rfl) nofun (fun g' hne => by rw [hpin, if_neg hne]) fun j x hx hlx => ?_
    rw [State.inputBinding_record]
    split
    · next hj => exact ⟨{ x with owner := .pin g }, by rw [← hj, hx, Option.map_some], hlx, rfl⟩
    · exact ⟨x, hx, hlx, rfl⟩
  have hsampled : RecordsDrive
      { s.inputBinding g i f a (foundLevel s.samples g found .highZ) with samples := s.samples + 1 } :=
    hbound.of_records rfl fun _ => .of_record rfl
  unfold State.bindInput
  dsimp only
  split
  · exact hsampled
  · exact hsampled.setValue i _

/-- An OUTPUT binding drives the pin from the value the record has (R115). -/
theorem RecordsDrive.bindOutput (hs : RecordsDrive s) {g : Pin} {i : SlotNo} {r : Record} (hr : s.slots[i].record = some r)
    (hl : r.state = .live) (hg : s.pins[g].binding = none) (hi : s.boundPin i = none) (a : Level) :
    RecordsDrive (s.bindOutput g i a r.value) := by
  have hpin : ∀ g' : Pin, (s.bindOutput g i a r.value).pins[g'] = _ := fun g' => s.modPin_get g g' _
  exact hs.bound (b := { slot := i, dir := .output, active := a, serial := s.pins[g].serialCounter + 1#8 }) hr hl hg hi
    (by rw [hpin, if_pos rfl]; rfl) (fun _ => by rw [hpin, if_pos rfl]) (fun g' hne => by rw [hpin, if_neg hne])
    fun _ => .of_record rfl

theorem RecordsDrive.bindPin (hs : RecordsDrive s) (p : Port) (found : Option Level) (pin : Byte) (h : Handle)
    (dir active filter : Byte) : RecordsDrive (s.bindPin p found pin h dir active filter).state := by
  refine controlOnly_keeps hs (withHandle_keeps_live hs fun i r hr hl => refusedIf_keeps hs fun _ => ?_)
  split
  · next d a _ _ _ _ =>
    split
    · exact hs
    · next hpasses =>
      obtain ⟨hg, hi, -⟩ := State.bindRefusal_none hpasses
      cases d with
      | input f => exact hs.bindInput hr hl hg hi f a found
      | output => exact hs.bindOutput hr hl hg hi a
  · exact hs

theorem RecordsDrive.unbindPin (hs : RecordsDrive s) (p : Port) (pin : Byte) : RecordsDrive (s.unbindPin p pin).state := by
  refine controlOnly_keeps hs ?_
  split
  · exact hs
  · next g _ =>
    split
    · exact hs
    · next b _ => exact hs.unbindFrom g b

theorem RecordsDrive.pinQuery (hs : RecordsDrive s) (pin : Byte) : RecordsDrive (s.pinQuery pin).state := by
  unfold State.pinQuery
  split <;> exact hs

end pins

/-! ## The rows -/

theorem RecordsDrive.carryOut {s : State} (hs : RecordsDrive s) (p : Port) (found : Option Level) (c : Command) :
    RecordsDrive (s.carryOut p found c).state := by
  cases c with
  | declare id kind init dflt dom policy => exact hs.declare p id kind init dflt dom policy
  | retire h => exact hs.retire p h
  | claim h => exact hs.claim p h
  | lookup id => exact hs.lookup id
  | lock h => exact hs.lock p h
  | set h v => exact hs.set p h v
  | setIf h e v => exact hs.setIf p h e v
  | raise h n => exact hs.raise p h n
  | read h => exact withHandle_keeps hs fun _ _ _ => hs
  | readGroup l => exact refusedIf_keeps hs fun _ => hs
  | subscribe h prio cond m mode cls attrs => exact hs.subscribe p h prio cond m mode cls attrs
  | unsubscribe h => exact hs.unsubscribe p h
  | acquire => exact hs.acquire p
  | release h => exact hs.release p h
  | releaseTop => exact hs.releaseTop p
  | threshold t => exact hs.setThreshold p t
  | serviceList => exact hs
  | domainReset dom mode timeout => exact hs.domainReset p dom mode timeout
  | domainRelease dom => exact hs.domainRelease p dom
  | bindPin pin h dir active filter => exact hs.bindPin p found pin h dir active filter
  | unbindPin pin => exact hs.unbindPin p pin
  | pinQuery pin => exact hs.pinQuery pin
  | evict port => exact hs.evict p port

theorem RowCase.recordsDrive {s t : State} (h : RowCase s t) (hs : RecordsDrive s) : RecordsDrive t := by
  cases h with
  | idle h => rw [h]; exact hs
  | cold h => rw [h]; exact .of_unbound fun g => by rw [State.cold_pin]; rfl
  | released levels _ h => rw [h]; exact .of_unbound fun g => by rw [State.released_pin]; rfl
  | divided h => rw [h]; exact hs.of_records rfl fun _ => .of_record rfl
  | ticked board h => rw [h]; exact hs.stands ((Stands.engaged s).trans (.ticked _ board))
  | accepted g h => rw [h]; exact hs.stands (.modPin s g _ (PinState.accepts_wire _))
  | deadlineRanOut p k h => rw [h]; exact hs.stands (.modDeadline s p k _)
  | warningRanOut d h => rw [h]; exact hs.stands (.modWarning s d _)
  | atPort p f h => rw [h]; exact hs.modPort p f
  | request r _ h => rw [h]; exact ((hs.stands (.taken s r)).carryOutRequest r).stands (.sendIndications _)
  | command p q found a _ h =>
    rw [h]
    exact ((hs.stands (.serving s p q)).carryOut p found q.command).stands
      ((Stands.sendAnswer _ p a).trans (.sendIndications _))

/-- Settles O56: every row keeps `RecordsDrive`, which the bindings in agreement make of the outputs that follow. -/
theorem stepsKeepOutputsFollow : Obligations.StepsKeepOutputsFollow := by
  unfold Obligations.StepsKeepOutputsFollow
  intro s t hb ho ht
  obtain ⟨rest, hrow⟩ := step_rowCase ht
  exact (hrow.recordsDrive (RecordsDrive.of_bindings (s := { s with pending := rest }) hb ho)).outputsFollow

end Sys2Proof.Machine
end

section
/-! PIN_UPDATE_REQUEST as the engine takes it (R119), and UNBIND_PIN as it is answered (R120). -/

namespace Sys2Proof.Machine

open Sys2Proof

/-! ## PIN_UPDATE_REQUEST -/

/-- The engine's setting about a request alters no pin but for the flag taken. -/
theorem State.taken_pin (s : State) (r : Taking) (g : Pin) :
    (s.taken r).pins[g] = { s.pins[g] with flag := (s.taken r).pins[g].flag } := by
  rw [State.taken_spec]
  split
  · exact s.clearFlag_pin r g
  · rfl

section updates
variable {s : State} {g : Pin} {serial : Byte} {b : Binding}

theorem State.pinUpdates_unbound (hb : s.pins[g].binding = none) : s.pinUpdates g serial = s := by
  rw [State.pinUpdates, PinState.serialIs, hb]
  rfl

/-- An update of another binding, or of a pin that is OUTPUT-bound, is discarded. -/
theorem State.pinUpdates_stale (hb : s.pins[g].binding = some b) (h : b.dir = .output ∨ b.serial ≠ serial) :
    s.pinUpdates g serial = s := by
  unfold State.pinUpdates
  split
  · next hserial =>
    rw [PinState.serialIs, hb] at hserial
    have hnone : s.pins[g].applied = none := Option.eq_none_iff_forall_not_mem.mpr fun x hx => by
      obtain ⟨c, -, f, hc, -, hdir, -⟩ := PinState.applied_some hx
      rw [hb, Option.some.injEq] at hc
      rw [hc, hdir] at h
      exact h.elim nofun fun hne => hne (hc ▸ of_decide_eq_true hserial)
    rw [hnone]
  · rfl

/-- The level of the binding the update names is applied, unless the record's domain is HELD. -/
theorem State.pinUpdates_applies {x : InputFilter} (hb : s.pins[g].binding = some b) (hx : s.pins[g].input = some x)
    (hd : b.dir ≠ .output) (hserial : b.serial = serial) :
    s.pinUpdates g serial
      = if s.heldAt b.slot = true then s else s.setValue b.slot (if x.accepted = b.active then 1#8 else 0#8) := by
  have happlied : s.pins[g].applied = some (b.slot, inputValue b.active x.accepted) := by
    rw [PinState.applied, hb, hx]
    cases hdir : b.dir with
    | input f => simp only [hdir]
    | output => exact absurd hdir hd
  rw [State.pinUpdates, PinState.serialIs, hb, if_pos (decide_eq_true hserial), happlied]
  rfl

end updates

/-- The row of the update the engine has chosen. -/
theorem exec_pinUpdateRequest {s : State} {g : Pin} {serial : Byte} (h : s.choice = some (.pinUpdate g serial)) :
    exec (.pinUpdateRequest g) s = .next ((s.taken (.pinUpdate g serial)).pinUpdates g serial).sendIndications :=
  congrArg Host.Outcome.next (State.takeInternal_takes s h (act := fun t => t.pinUpdates g serial) (if_pos rfl))

/-- Settles O22: an update is discarded or its level applied (`State.pinUpdates_stale`, `State.pinUpdates_applies`), and the giving
of the value is all that follows. -/
theorem pinUpdatesApplyTheLevel : Obligations.PinUpdatesApplyTheLevel := by
  unfold Obligations.PinUpdatesApplyTheLevel
  intro s g serial hc
  have hnone := taken_indication hc
  have hpin := s.taken_pin (.pinUpdate g serial) g
  have hslots := s.taken_slots (.pinUpdate g serial)
  have hdomains := s.taken_domains (.pinUpdate g serial)
  refine ⟨_, _, exec_pinUpdateRequest hc, rfl, ?_⟩
  generalize s.taken (.pinUpdate g serial) = s0 at hnone hpin hslots hdomains ⊢
  have hbinding : s0.pins[g].binding = s.pins[g].binding := by rw [hpin]
  have hinput : s0.pins[g].input = s.pins[g].input := by rw [hpin]
  rw [← hbinding, ← hinput]
  have hsame : s0.sendIndications = s0 := State.sendIndications_none s0 hnone
  refine ⟨fun hb => ?_, fun b hb => ⟨fun hstale => ?_, fun r x hr hx hd hserial => ?_⟩⟩
  · rw [State.pinUpdates_unbound hb, hsame]
  · rw [State.pinUpdates_stale hb hstale, hsame]
  · have hheld : s0.heldAt b.slot = s.domainHeld r.domain := by
      rw [State.heldAt, hslots, hr, ← domainHeld_congr hdomains]
    rw [State.pinUpdates_applies hb hx hd hserial, hheld]
    refine ⟨fun h => ?_, fun h => ?_⟩
    · rw [if_pos h, hsame]
    · rw [if_neg (Bool.eq_false_iff.mp h)]
      exact .sent hnone b.slot _

/-! ## UNBIND_PIN -/

/-- A command that alters slots, pins and the count of samplings alone owes no indication. -/
theorem Takes.leaves {s : State} {p : Port} {tag : Byte} {c : Command} {rest : List Queued} (ht : Takes s p tag c rest)
    {act : Command → Option (State → Done)} {f : State → Done} (ha : act c = some f) {m : State} {status : Status}
    {fields : List Byte} (hf : f (s.serving p ⟨tag, c⟩) = { state := m, status := status, fields := fields })
    (hm : m = { s.serving p ⟨tag, c⟩ with slots := m.slots, pins := m.pins, samples := m.samples }) :
    s.takeCommand p act
      = { s.answered p rest { tag := tag, code := c.opcode, status := status, fields := fields } with
          slots := m.slots, pins := m.pins, samples := m.samples } := by
  have hanswered : m.sendAnswer p { tag := tag, code := c.opcode, status := status, fields := fields }
      = { s.answered p rest { tag := tag, code := c.opcode, status := status, fields := fields } with
          slots := m.slots, pins := m.pins, samples := m.samples } := by
    rw [hm, ht.serving]
    simp [State.sendAnswer, State.modPort, State.answered]
  rw [State.takeCommand_takes s ht ha, hf, hanswered]
  exact State.sendIndications_none _ (ht.answered_indication _)

section unbind
variable {s : State} {p : Port} {pin : Byte} {g : Pin} {b : Binding}

/-- What the end of a binding leaves (R120). -/
theorem State.unbindFrom_eq {r : Record} (hr : s.slots[b.slot].record = some r) (g : Pin) :
    s.unbindFrom g b
      = { s with
          pins := s.pins.set g { s.pins[g] with binding := none, input := none, driver := .highZ }
          slots := s.slots.set b.slot
            { s.slots[b.slot] with record := some (if b.dir = .output then r else { r with owner := .nobody }) } } := by
  unfold State.unbindFrom
  cases hd : b.dir with
  | input f =>
    simp only [State.modRecord, State.modPin_slots, hr, Option.map_some, reduceCtorEq, if_false]
    rfl
  | output =>
    have hsame : ({ s.slots[b.slot] with record := some r } : Slot) = s.slots[b.slot] := by rw [← hr]
    rw [if_pos rfl, hsame, set_same]
    rfl

theorem State.unbindPin_badPin (hcls : s.ports[p].cls = .control) (h : 16 ≤ pin.toNat) :
    s.unbindPin p pin = refuse s .badParam := by
  rw [State.unbindPin, controlOnly_control hcls, pinOf_none h]

theorem State.unbindPin_unbound (hcls : s.ports[p].cls = .control) (h : pin.toNat = g.val) (hb : s.pins[g].binding = none) :
    s.unbindPin p pin = refuse s .notBound := by
  rw [State.unbindPin, controlOnly_control hcls, pinOf_val h]
  dsimp only
  rw [hb]

theorem State.unbindPin_bound (hcls : s.ports[p].cls = .control) (h : pin.toNat = g.val)
    (hb : s.pins[g].binding = some b) :
    s.unbindPin p pin
      = { state := s.unbindFrom g b, status := .ok
          fields := handleField b.slot s.slots[b.slot].gen ++ [directionByte b.dir] } := by
  rw [State.unbindPin, controlOnly_control hcls, pinOf_val h]
  dsimp only
  rw [hb]
  rfl

end unbind

theorem directionByte_eq (d : Direction) : directionByte d = if d = .output then 0x01#8 else 0x00#8 := by
  cases d with
  | input f => rw [if_neg nofun]; rfl
  | output => rw [if_pos rfl]; rfl

/-- Settles O43: the checks in their order, and what the end of the binding leaves (`State.unbindFrom_eq`). -/
theorem unbindPinOutcomes : Obligations.UnbindPinOutcomes := by
  unfold Obligations.UnbindPinOutcomes
  intro s p tag pin rest ht hcontrol
  have hcls := (ht.serving_cls p).trans hcontrol
  refine ⟨fun hbad => ht.bare (f := fun t => t.unbindPin p pin) rfl (State.unbindPin_badPin hcls hbad), fun g hg =>
    ⟨fun hb => ht.bare (f := fun t => t.unbindPin p pin) rfl (State.unbindPin_unbound hcls hg ?_), fun b r hb hr => ?_⟩⟩
  · rw [ht.serving_pins]
    exact hb
  · have hunbound := State.unbindFrom_eq (s := s.serving p ⟨tag, .unbindPin pin⟩) (by rw [ht.serving_slots]; exact hr) g
    have hanswer := ht.leaves (act := fun | .unbindPin pin => some fun t => t.unbindPin p pin | _ => none)
      (f := fun t => t.unbindPin p pin) rfl
      (State.unbindPin_bound hcls hg (by rw [ht.serving_pins]; exact hb)) (by rw [hunbound])
    rw [hunbound, ht.serving_slots, ht.serving_pins, directionByte_eq] at hanswer
    exact congrArg Host.Outcome.next (hanswer.trans (by rw [ht.serving]; rfl))

end Sys2Proof.Machine
end

section
/-! BIND_PIN as it is answered (R112 to R116). -/

namespace Sys2Proof.Machine

open Sys2Proof

/-! ## A value given while the answer is on its way -/

section answer
variable (s : State) (p : Port) (a : Answer)

theorem State.drivePin_sendAnswer (i : SlotNo) (v : Byte) :
    (s.drivePin i v).sendAnswer p a = (s.sendAnswer p a).drivePin i v := by
  have hbound : (s.sendAnswer p a).boundPin i = s.boundPin i := rfl
  unfold State.drivePin
  rw [hbound, State.sendAnswer_pins]
  split
  · rfl
  · split
    · rfl
    · split <;> rfl

theorem State.oweWhere_sendAnswer (f : Port → Bool) : (s.oweWhere f).sendAnswer p a = (s.sendAnswer p a).oweWhere f := by
  have hports : ((s.oweWhere f).sendAnswer p a).ports = ((s.sendAnswer p a).oweWhere f).ports := vector_ext fun q => by
    simp only [State.sendAnswer_ports, State.oweWhere_ports, set_get, ofFn_get]
    by_cases hq : q = p
    · subst hq
      simp only [if_true]
      split <;> rfl
    · simp only [if_neg hq]
  exact congrArg (fun ports => { s with ports := ports }) hports

/-- An answer sent after a value is given, or before, makes no difference. -/
theorem State.setValue_sendAnswer (i : SlotNo) (v : Byte) :
    (s.setValue i v).sendAnswer p a = (s.sendAnswer p a).setValue i v := by
  unfold State.setValue State.change
  rw [State.sendAnswer_slots]
  cases s.slots[i].record with
  | none => rfl
  | some r =>
    dsimp only
    split
    · rfl
    · rw [State.drivePin_sendAnswer, State.oweWhere_sendAnswer]
      rfl

/-- The answer and the indications alter no record. -/
theorem State.sent_valueAt (i : SlotNo) : (s.sendAnswer p a).sendIndications.valueAt i = s.valueAt i :=
  valueAt_congr (by rw [State.sendIndications_slots, State.sendAnswer_slots])

theorem State.sent_versionAt (i : SlotNo) : (s.sendAnswer p a).sendIndications.versionAt i = s.versionAt i :=
  versionAt_congr (by rw [State.sendIndications_slots, State.sendAnswer_slots])

end answer

/-! ## The checks of R113 -/

/-- The part of a BIND_PIN that follows the checks of its parameters (R113). -/
def State.bindChecked (s : State) (p : Port) (found : Option Level) (g : Pin) (i : SlotNo) (r : Record) (d : Direction)
    (a : Level) : Done :=
  match s.bindRefusal p g i r d with
  | some e => refuse s e
  | none =>
    let t :=
      match d with
      | .input f => s.bindInput g i f a found
      | .output => s.bindOutput g i a r.value
    { state := t, status := .ok, fields := t.bindFields g i d }

theorem levelOf_levelByte (l : Level) : levelOf (levelByte l) = some l := by
  cases l <;> rfl

theorem levelOf_none {b : Byte} (h : 2 ≤ b.toNat) : levelOf b = none := by
  rw [levelOf, if_neg, if_neg]
  · rintro rfl
    exact absurd h (by decide)
  · rintro rfl
    exact absurd h (by decide)

theorem directionOf_input {b : Byte} {f : Fin 16} (h : b.toNat = f.val) : directionOf 0x00#8 b = some (.input f) := by
  have hlt : b.toNat < 16 := h ▸ f.isLt
  rw [directionOf, if_pos rfl, dif_pos hlt]
  simp only [h, Fin.eta]

theorem directionOf_output (b : Byte) : directionOf 0x01#8 b = some .output := rfl

theorem directionOf_none {dir filter : Byte} (h : 2 ≤ dir.toNat ∨ (dir = 0#8 ∧ 16 ≤ filter.toNat)) :
    directionOf dir filter = none := by
  rcases h with h | ⟨rfl, h⟩
  · rw [directionOf, if_neg, if_neg]
    · rintro rfl
      exact absurd h (by decide)
    · rintro rfl
      exact absurd h (by decide)
  · rw [directionOf, if_pos rfl, dif_neg (Nat.not_lt.mpr h)]

theorem directionOf_some {dir filter : Byte} (h : dir = 1#8 ∨ (dir = 0#8 ∧ filter.toNat < 16)) :
    ∃ d, directionOf dir filter = some d := by
  rcases h with rfl | ⟨rfl, h⟩
  · exact ⟨.output, directionOf_output filter⟩
  · exact ⟨.input ⟨filter.toNat, h⟩, directionOf_input rfl⟩

section checks
variable {s : State} {p : Port} {found : Option Level} {pin dir active filter : Byte} {h : Handle} {i : SlotNo} {r : Record}
  {g : Pin} {d : Direction} {a : Level}

theorem State.bindPin_system (hn : Names s h i r) (hl : r.state = .live) (hcls : s.ports[p].cls = .control) (hi : i.val < 20) :
    s.bindPin p found pin h dir active filter = refuse s .denied := by
  rw [State.bindPin, controlOnly_control hcls, State.withHandle_names hn hl, if_pos (isSystemSlot_of_lt hi)]

theorem State.bindPin_badParam (hn : Names s h i r) (hl : r.state = .live) (hcls : s.ports[p].cls = .control)
    (hi : 20 ≤ i.val)
    (hbad : pinOf pin = none ∨ directionOf dir filter = none ∨ levelOf active = none ∨ r.kind = .event) :
    s.bindPin p found pin h dir active filter = refuse s .badParam := by
  rw [State.bindPin, controlOnly_control hcls, State.withHandle_names hn hl, if_neg (not_system_of_le hi)]
  split
  · next hg hd ha hk =>
    rw [hg, hd, ha, hk] at hbad
    simp only [reduceCtorEq, or_false] at hbad
  · rfl

theorem State.bindPin_checked (hn : Names s h i r) (hl : r.state = .live) (hcls : s.ports[p].cls = .control)
    (hi : 20 ≤ i.val) (hg : pinOf pin = some g) (hd : directionOf dir filter = some d) (ha : levelOf active = some a)
    (hk : r.kind = .level) :
    s.bindPin p found pin h dir active filter = s.bindChecked p found g i r d a := by
  rw [State.bindPin, controlOnly_control hcls, State.withHandle_names hn hl, if_neg (not_system_of_le hi), hg, hd, ha, hk]
  rfl

theorem State.bindChecked_refused {e : Status} (hw : s.bindRefusal p g i r d = some e) :
    s.bindChecked p found g i r d a = refuse s e := by
  unfold State.bindChecked
  rw [hw]

theorem State.bindChecked_input {f : Fin 16} (hw : s.bindRefusal p g i r (.input f) = none) :
    s.bindChecked p found g i r (.input f) a
      = { state := s.bindInput g i f a found, status := .ok
          fields := (s.bindInput g i f a found).bindFields g i (.input f) } := by
  unfold State.bindChecked
  rw [hw]

theorem State.bindChecked_output (hw : s.bindRefusal p g i r .output = none) :
    s.bindChecked p found g i r .output a
      = { state := s.bindOutput g i a r.value, status := .ok
          fields := (s.bindOutput g i a r.value).bindFields g i .output } := by
  unfold State.bindChecked
  rw [hw]

end checks

/-! ## The refusals past the parameters -/

section refusal
variable {s : State} {p : Port} {g : Pin} {i : SlotNo} {r : Record} {d : Direction}

theorem State.boundPin_isSome :
    (s.boundPin i).isSome = true ↔ ∃ g' : Pin, (s.pins[g'].binding.any fun b => b.slot = i) = true := by
  constructor
  · intro h
    obtain ⟨g', hg'⟩ := Option.isSome_iff_exists.mp h
    obtain ⟨b, hb, hslot⟩ := State.boundPin_some s hg'
    exact ⟨g', by rw [hb]; exact decide_eq_true hslot⟩
  · rintro ⟨g', hg'⟩
    refine Option.isSome_iff_ne_none.mpr fun hnone => ?_
    cases hb : s.pins[g'].binding with
    | none => rw [hb] at hg'; cases hg'
    | some b =>
      rw [hb] at hg'
      exact State.boundPin_none s hnone g' b hb (of_decide_eq_true hg')

theorem State.bindRefusal_bound
    (h : s.pins[g].binding ≠ none ∨ ∃ g' : Pin, (s.pins[g'].binding.any fun b => b.slot = i) = true) :
    s.bindRefusal p g i r d = some .bound := by
  unfold State.bindRefusal
  split
  · rfl
  · next hfree =>
    have hother := h.resolve_left fun hne => hfree (Option.isSome_iff_ne_none.mpr hne)
    rw [if_pos (State.boundPin_isSome.mpr hother)]

/-- With pin and record unbound, an OUTPUT passes, and an INPUT goes by lock and owner. -/
theorem State.bindRefusal_unbound (hg : s.pins[g].binding = none)
    (hi : ∀ g' : Pin, (s.pins[g'].binding.any fun b => b.slot = i) = false) :
    s.bindRefusal p g i r .output = none
      ∧ ∀ f, s.bindRefusal p g i r (.input f)
          = if r.locked = true then some .locked
            else if r.owner = .port p ∨ r.owner = .nobody then none
            else some .notOwner := by
  have hfree : ¬ (s.boundPin i).isSome = true := fun h => by
    obtain ⟨g', hg'⟩ := State.boundPin_isSome.mp h
    exact absurd ((hi g').symm.trans hg') Bool.false_ne_true
  unfold State.bindRefusal
  rw [if_neg (Option.not_isSome_iff_eq_none.mpr hg), if_neg hfree]
  refine ⟨rfl, fun f => ?_⟩
  rw [if_neg (Option.not_isSome_iff_eq_none.mpr hg), if_neg hfree]

end refusal

/-! ## The bindings made -/

/-- Pin x, sampled at l, with the INPUT binding that a BIND_PIN makes (R112, R114). -/
def PinState.boundInput (x : PinState) (i : SlotNo) (f : Fin 16) (a l : Level) : PinState :=
  { x with
    raw := l, input := some { accepted := l, count := 0, due := false }, driver := .highZ
    serialCounter := x.serialCounter + 1#8
    binding := some { slot := i, dir := .input f, active := a, serial := x.serialCounter + 1#8 } }

section made
variable {s : State} {g : Pin} {i : SlotNo} {r : Record}

/-- The state after the binding and sampling of an INPUT, before its level is applied (R114). -/
def State.sampledInput (s : State) (g : Pin) (i : SlotNo) (f : Fin 16) (a l : Level) : State :=
  { s.inputBinding g i f a l with samples := s.samples + 1 }

theorem State.sampledInput_eq (hr : s.slots[i].record = some r) (f : Fin 16) (a l : Level) :
    s.sampledInput g i f a l
      = { s with
          pins := s.pins.set g (s.pins[g].boundInput i f a l)
          slots := s.slots.set i { s.slots[i] with record := some { r with owner := .pin g } }
          samples := s.samples + 1 } := by
  have hpins : (s.sampledInput g i f a l).pins = s.pins.set g (s.pins[g].boundInput i f a l) := vector_ext fun g' => by
    rw [set_get]
    exact s.inputBinding_pin g g' i f a l
  have hslots : (s.sampledInput g i f a l).slots
      = s.slots.set i { s.slots[i] with record := some { r with owner := .pin g } } := by
    simp only [State.sampledInput, State.inputBinding, State.modPin_slots, State.modRecord_slots, hr, Option.map_some]
  rw [← hpins, ← hslots]
  rfl

theorem State.sampledInput_heldAt (hr : s.slots[i].record = some r) (f : Fin 16) (a l : Level) :
    (s.sampledInput g i f a l).heldAt i = s.domainHeld r.domain := by
  rw [State.sampledInput_eq hr, State.heldAt]
  dsimp only
  rw [set_get, if_pos rfl]
  rfl

/-- The level sampled is applied, unless the record's domain is HELD (R114). -/
theorem State.bindInput_eq (hr : s.slots[i].record = some r) (f : Fin 16) (a : Level) (found : Option Level) :
    s.bindInput g i f a found
      = if s.domainHeld r.domain = true then s.sampledInput g i f a (foundLevel s.samples g found .highZ)
        else (s.sampledInput g i f a (foundLevel s.samples g found .highZ)).setValue i
          (if foundLevel s.samples g found .highZ = a then 1#8 else 0#8) := by
  rw [← State.sampledInput_heldAt hr f a (foundLevel s.samples g found .highZ)]
  rfl

/-- Giving a value moves no pin with an INPUT binding. -/
theorem State.setValue_pin_input {b : Binding} (hb : s.pins[g].binding = some b) (hd : b.dir ≠ .output) (v : Byte) :
    (s.setValue i v).pins[g] = s.pins[g] := by
  rw [State.setValue_eq]
  split
  · rfl
  · rw [State.change_pin, hb]
    exact if_neg fun h => hd h.1

theorem State.bindInput_pin (hr : s.slots[i].record = some r) (f : Fin 16) (a : Level) (found : Option Level) :
    (s.bindInput g i f a found).pins[g] = s.pins[g].boundInput i f a (foundLevel s.samples g found .highZ) := by
  have hsampled : ∀ l, (s.sampledInput g i f a l).pins[g] = s.pins[g].boundInput i f a l := fun l => by
    rw [State.sampledInput_eq hr]
    dsimp only
    rw [set_get, if_pos rfl]
  rw [State.bindInput_eq hr]
  split
  · exact hsampled _
  · have hbinding : (s.sampledInput g i f a (foundLevel s.samples g found .highZ)).pins[g].binding
        = some { slot := i, dir := .input f, active := a, serial := s.pins[g].serialCounter + 1#8 } := by
      rw [hsampled]
      rfl
    rw [State.setValue_pin_input hbinding nofun, hsampled]

/-- The fields of the answer to an INPUT (R113). -/
theorem State.bindInput_fields (hr : s.slots[i].record = some r) (f : Fin 16) (a : Level) (found : Option Level) :
    (s.bindInput g i f a found).bindFields g i (.input f)
      = [s.pins[g].serialCounter + 1#8, levelByte (foundLevel s.samples g found .highZ),
          (s.bindInput g i f a found).valueAt i, hiByte ((s.bindInput g i f a found).versionAt i),
          loByte ((s.bindInput g i f a found).versionAt i)] := by
  have hlevel : (s.bindInput g i f a found).boundLevelByte g (.input f) = levelByte (foundLevel s.samples g found .highZ) := by
    simp only [State.boundLevelByte, State.bindInput_pin hr, PinState.boundInput]
  rw [State.bindFields, hlevel, State.bindInput_pin hr]
  rfl

/-- The fields of the answer to an OUTPUT (R113). -/
theorem State.bindOutput_fields (hr : s.slots[i].record = some r) (a : Level) :
    (s.bindOutput g i a r.value).bindFields g i .output
      = [s.pins[g].serialCounter + 1#8, 0xFF#8, r.value, hiByte r.version, loByte r.version] := by
  have hpin : (s.bindOutput g i a r.value).pins[g].serialCounter = s.pins[g].serialCounter + 1#8 := by
    rw [State.bindOutput, State.modPin_get, if_pos rfl]
    rfl
  have hvalue : (s.bindOutput g i a r.value).valueAt i = r.value := by
    simp only [State.valueAt, State.bindOutput, State.modPin_slots, hr]
  have hversion : (s.bindOutput g i a r.value).versionAt i = r.version := by
    simp only [State.versionAt, State.bindOutput, State.modPin_slots, hr]
  rw [State.bindFields, hpin, hvalue, hversion]
  rfl

end made

section answered
variable {s : State} {p : Port} {tag : Byte} {c : Command} {rest : List Queued}

theorem Takes.serving_samples (ht : Takes s p tag c rest) : (s.serving p ⟨tag, c⟩).samples = s.samples := by rw [ht.serving]

/-- The binding and sampling of an INPUT by a command of p, its answer on its way, before its level is applied (R114). -/
theorem Takes.sampledInput (ht : Takes s p tag c rest) {i : SlotNo} {r : Record} (hr : s.slots[i].record = some r) (g : Pin)
    (f : Fin 16) (a l : Level) (answer : Answer) :
    ((s.serving p ⟨tag, c⟩).sampledInput g i f a l).sendAnswer p answer
      = { s.answered p rest answer with
          pins := s.pins.set g (s.pins[g].boundInput i f a l)
          slots := s.slots.set i { s.slots[i] with record := some { r with owner := .pin g } }
          samples := s.samples + 1 } := by
  rw [State.sampledInput_eq (by rw [ht.serving_slots]; exact hr), ht.serving]
  simp [State.sendAnswer, State.modPort, State.answered]

/-- A BIND_PIN INPUT by a command of p: the state bound and sampled, and the giving of the value where the domain is not HELD. -/
theorem Takes.bindsInput (ht : Takes s p tag c rest) {i : SlotNo} {r : Record} (hr : s.slots[i].record = some r) (g : Pin)
    (f : Fin 16) (a : Level) (found : Option Level) (answer : Answer) {b t : State}
    (hb : b = { s.answered p rest answer with
                pins := s.pins.set g (s.pins[g].boundInput i f a (foundLevel s.samples g found .highZ))
                slots := s.slots.set i { s.slots[i] with record := some { r with owner := .pin g } }
                samples := s.samples + 1 })
    (htt : t = (((s.serving p ⟨tag, c⟩).bindInput g i f a found).sendAnswer p answer).sendIndications) :
    (s.domainHeld r.domain = true → t = b)
      ∧ (s.domainHeld r.domain = false →
          GivenValue b t i (if foundLevel s.samples g found .highZ = a then 1#8 else 0#8)) := by
  have hnone : ∀ q : Port, b.ports[q].inIndication = none := fun q => by
    rw [hb]
    exact ht.answered_indication answer q
  have hbound := ht.sampledInput hr g f a (foundLevel s.samples g found .highZ) answer
  rw [← hb] at hbound
  rw [State.bindInput_eq (by rw [ht.serving_slots]; exact hr), domainHeld_congr ht.serving_domains,
    ht.serving_samples] at htt
  refine ⟨fun hheld => ?_, fun hfree => ?_⟩
  · rw [htt, if_pos hheld, hbound, State.sendIndications_none b hnone]
  · rw [htt, if_neg (Bool.eq_false_iff.mp hfree), State.setValue_sendAnswer, hbound]
    exact .sent hnone i _

end answered

theorem driveLevel_spec (v : Byte) (hv : v ≠ 0#8) :
    driveLevel .high v = .high ∧ driveLevel .low v = .low ∧ driveLevel .high 0#8 = .low ∧ driveLevel .low 0#8 = .high :=
  ⟨if_neg hv, if_neg hv, rfl, rfl⟩

/-- Settles O42: the checks in their order (`State.bindRefusal_unbound`), an INPUT bound, sampled and applied
(`Takes.bindsInput`), an OUTPUT bound and driven. -/
theorem bindPinOutcomes : Obligations.BindPinOutcomes := by
  unfold Obligations.BindPinOutcomes
  intro s p found tag pin h dir active filter rest i r ht hcontrol hn hl
  have hcls := (ht.serving_cls p).trans hcontrol
  have hnames := ht.names hn
  obtain ⟨-, -, hr⟩ := hn
  have hr' : (s.serving p ⟨tag, .bindPin pin h dir active filter⟩).slots[i].record = some r := by
    rw [ht.serving_slots]
    exact hr
  have hbare : ∀ {status}, (s.serving p ⟨tag, .bindPin pin h dir active filter⟩).bindPin p found pin h dir active filter
        = refuse (s.serving p ⟨tag, .bindPin pin h dir active filter⟩) status →
      exec (.bindPin p found) s = s.bare p tag .bindPin rest status := fun hrefused =>
    ht.bare (f := fun t => t.bindPin p found pin h dir active filter) rfl hrefused
  refine ⟨fun hi => hbare (State.bindPin_system hnames hl hcls hi), fun hi => ⟨fun hbad => ?_,
    fun g l hg ha hk hdir => ?_⟩, driveLevel_spec⟩
  · refine hbare (State.bindPin_badParam hnames hl hcls hi ?_)
    rcases hbad with hbad | hbad | hbad | hbad | hbad
    · exact .inl (pinOf_none hbad)
    · exact .inr (.inl (directionOf_none (.inl hbad)))
    · exact .inr (.inr (.inl (levelOf_none hbad)))
    · exact .inr (.inl (directionOf_none (.inr hbad)))
    · exact .inr (.inr (.inr hbad))
  have hchecked := fun {d} (hd : directionOf dir filter = some d) =>
    State.bindPin_checked (found := found) hnames hl hcls hi (pinOf_val hg) hd (ha ▸ levelOf_levelByte l) hk
  refine ⟨fun hbound => ?_, fun hgfree hifree => ?_⟩
  · obtain ⟨d, hd⟩ := directionOf_some hdir
    rw [← ht.serving_pins] at hbound
    exact hbare ((hchecked hd).trans (State.bindChecked_refused (State.bindRefusal_bound hbound)))
  rw [← ht.serving_pins] at hgfree hifree
  obtain ⟨houtput, hrefusal⟩ := State.bindRefusal_unbound (p := p) (r := r) hgfree hifree
  have hinput : dir = 0#8 → ∃ f, directionOf dir filter = some (.input f) := fun h0 => by
    obtain ⟨-, hf⟩ := hdir.resolve_left (by rw [h0]; decide)
    exact ⟨⟨filter.toNat, hf⟩, h0 ▸ directionOf_input rfl⟩
  refine ⟨fun h0 hlocked => ?_, fun h0 hlocked hport hnobody => ?_, fun f h0 hf hlocked howner => ?_, fun h1 => ?_⟩
  · obtain ⟨f, hd⟩ := hinput h0
    exact hbare ((hchecked hd).trans (State.bindChecked_refused (by rw [hrefusal, if_pos hlocked])))
  · obtain ⟨f, hd⟩ := hinput h0
    exact hbare ((hchecked hd).trans (State.bindChecked_refused
      (by rw [hrefusal, if_neg (Bool.eq_false_iff.mp hlocked), if_neg fun ho => ho.elim hport hnobody])))
  · have hpasses : (s.serving p ⟨tag, .bindPin pin h dir active filter⟩).bindRefusal p g i r (.input f) = none := by
      rw [hrefusal, if_neg (Bool.eq_false_iff.mp hlocked), if_pos howner]
    have hdone := (hchecked (h0 ▸ directionOf_input hf)).trans (State.bindChecked_input (found := found) (a := l) hpasses)
    rw [State.bindInput_fields hr', ht.serving_pins, ht.serving_samples] at hdone
    refine ⟨_, _, _, foundLevel s.samples g found .highZ,
      ht.exec (f := fun t => t.bindPin p found pin h dir active filter) rfl hdone,
      fun l' hl' => by rw [Option.mem_def.mp hl']; rfl, rfl, rfl, ?_⟩
    exact ht.bindsInput hr g f l found _ (by rw [State.sent_valueAt, State.sent_versionAt]; rfl) rfl
  · subst h1
    have hdone := (hchecked (directionOf_output filter)).trans (State.bindChecked_output (found := found) (a := l) houtput)
    rw [State.bindOutput_fields hr', ht.serving_pins] at hdone
    have hanswer := ht.leaves (act := fun
        | .bindPin pin h dir active filter => some fun t => t.bindPin p found pin h dir active filter
        | _ => none)
      (f := fun t => t.bindPin p found pin h 1#8 active filter) rfl hdone rfl
    refine congrArg Host.Outcome.next (hanswer.trans ?_)
    rw [State.bindOutput, ht.serving]
    rfl

end Sys2Proof.Machine
end

section
/-! What a stage leaves of the link ports' queues (R124, R146): `QueuesStand` says that every port's link state, queues and
answer on its way stand, and with them the request held as chosen. Every internal request and every command is so; only its
being taken and its answer alter a queue. -/

namespace Sys2Proof.Machine

open Sys2Proof

/-! ## Queues that stand -/

/-- Two ports with the same link state and queues, and the same answer on its way. -/
structure SameQueues (x y : PortState) : Prop where
  link : y.link = x.link
  submit : y.submit = x.submit
  answers : y.answers = x.answers
  outstanding : y.outstanding = x.outstanding
  inAnswer : y.inAnswer = x.inAnswer

theorem SameQueues.refl (x : PortState) : SameQueues x x := ⟨rfl, rfl, rfl, rfl, rfl⟩

theorem SameQueues.trans {x y z : PortState} (h : SameQueues x y) (k : SameQueues y z) : SameQueues x z :=
  ⟨k.link.trans h.link, k.submit.trans h.submit, k.answers.trans h.answers, k.outstanding.trans h.outstanding,
    k.inAnswer.trans h.inAnswer⟩

/-- From s to t every port's queues stand, and so does the request held as chosen. -/
structure QueuesStand (s t : State) : Prop where
  taking : t.taking = s.taking
  ports : ∀ q : Port, SameQueues s.ports[q] t.ports[q]

theorem QueuesStand.refl (s : State) : QueuesStand s s := ⟨rfl, fun _ => .refl _⟩

theorem QueuesStand.trans {s t u : State} (h : QueuesStand s t) (k : QueuesStand t u) : QueuesStand s u :=
  ⟨k.taking.trans h.taking, fun q => (h.ports q).trans (k.ports q)⟩

theorem QueuesStand.foldl {α : Type} {op : State → α → State} (h : ∀ s a, QueuesStand s (op s a)) (l : List α) (s : State) :
    QueuesStand s (l.foldl op s) := by
  induction l generalizing s with
  | nil => exact .refl s
  | cons a l ih => exact (h s a).trans (ih _)

/-- Whatever leaves the ports and the request held as chosen. -/
theorem QueuesStand.of_same {s t : State} (htaking : t.taking = s.taking) (hports : t.ports = s.ports) : QueuesStand s t :=
  ⟨htaking, fun q => by rw [hports]; exact .refl _⟩

/-- Whatever leaves the ports but for the indications on their way. -/
theorem QueuesStand.of_acts {P : SlotNo → Prop} {s t : State} (h : ActsOn P s t) : QueuesStand s t :=
  ⟨by rw [h.rest], fun q => by rw [h.ports q]; exact ⟨rfl, rfl, rfl, rfl, rfl⟩⟩

theorem QueuesStand.modPort (s : State) (p : Port) (f : PortState → PortState) (hf : ∀ x, SameQueues x (f x)) :
    QueuesStand s (s.modPort p f) := by
  refine ⟨rfl, fun q => ?_⟩
  rw [State.modPort_get]
  split
  · next hq => exact hq ▸ hf _
  · exact .refl _

theorem QueuesStand.owe (s : State) (p : Port) : QueuesStand s (s.owe p) :=
  .modPort s p _ fun _ => ⟨rfl, rfl, rfl, rfl, rfl⟩

theorem QueuesStand.modService (s : State) (p : Port) (f : Service → Service) : QueuesStand s (s.modService p f) :=
  .of_same rfl rfl

theorem QueuesStand.modDomain (s : State) (d : Dom) (f : DomainEntry → DomainEntry) : QueuesStand s (s.modDomain d f) :=
  .of_same rfl rfl

theorem QueuesStand.sendIndications (s : State) : QueuesStand s s.sendIndications :=
  ⟨rfl, fun q => by rw [State.sendIndications_get]; exact ⟨rfl, rfl, rfl, rfl, rfl⟩⟩

/-! ## Operations on records -/

section operations
variable (s : State)

theorem QueuesStand.setValue (i : SlotNo) (v : Byte) : QueuesStand s (s.setValue i v) := .of_acts (.setValue s i v)

theorem QueuesStand.change (i : SlotNo) (v : Byte) (n : Nat) : QueuesStand s (s.change i v n) := .of_acts (.change s i v n)

theorem QueuesStand.updSub (i : SlotNo) (p : Port) (f : Option Sub → Option Sub) : QueuesStand s (s.updSub i p f) :=
  .of_acts (.updSub s i p f)

theorem QueuesStand.departOn (i : SlotNo) (p : Port) : QueuesStand s (s.departOn i p) := .of_acts (departOn_acts s p i)

theorem QueuesStand.endWarning (d : Dom) : QueuesStand s (s.endWarning d).1 := .of_acts (Follows.endWarning s d).acts

theorem QueuesStand.unbindFrom (g : Pin) (b : Binding) : QueuesStand s (s.unbindFrom g b) := by
  rw [State.unbindFrom_frame]
  exact .of_same rfl rfl

theorem QueuesStand.retireRecord {s : State} {i : SlotNo} {r : Record} (hr : s.slots[i].record = some r) :
    QueuesStand s (s.retireRecord i) := by
  refine ⟨by rw [s.retireRecord_frame i r hr], fun q => ?_⟩
  rw [s.retireRecord_port i r hr]
  split
  · exact ⟨rfl, rfl, rfl, rfl, rfl⟩
  · exact .refl _

/-! ## Internal requests -/

theorem QueuesStand.orphanSlot (p : Port) (i : SlotNo) : QueuesStand s (State.orphanSlot p s i) := by
  rcases orphanSlot_cases p s i with h | ⟨r, hr, h | h⟩
  · rw [h]
    exact .refl s
  · rw [h]
    exact .retireRecord hr
  · rw [h]
    exact .of_acts (State.disown_acts s i _)

theorem QueuesStand.teardown (p : Port) : QueuesStand s (s.teardown p) := by
  have hdropped : QueuesStand s (s.dropService p) := .foldl (fun t e => .of_acts (dropEntry_acts p t e)) _ s
  have hreset : ∀ t : State, QueuesStand t (t.resetAttention p) := fun t => .modService t p _
  have hattended : QueuesStand s (s.attended p) := (hdropped.trans (.of_acts (settleSubs_acts p _))).trans (hreset _)
  have hdeparted : QueuesStand s (s.departed p) :=
    hattended.trans (.foldl (fun t d => .of_acts (Follows.depart t d p).acts) (List.finRange 8) _)
  have horphaned : QueuesStand s (s.orphaned p) :=
    hdeparted.trans (.foldl (op := State.orphanSlot p) (fun t i => .orphanSlot t p i) userSlots _)
  have hvalues : QueuesStand s (s.tornDown p) := horphaned.trans (.of_acts (settleSystemRecords_acts p _ _))
  have hcompleted : ∀ t : State, QueuesStand t (t.completeTeardown p) := fun t =>
    .trans (.modPort t p (fun q => { q with inCompletion := true }) fun _ => ⟨rfl, rfl, rfl, rfl, rfl⟩) (.owe _ p)
  rw [teardown_eq]
  exact hvalues.trans (hcompleted _)

theorem QueuesStand.expire (p : Port) (f : DeadlineFlag) : QueuesStand s (s.expire p f) := by
  unfold State.expire
  split
  · exact .trans (.modService s p _) (.setValue _ _ _)
  · exact .refl s

theorem QueuesStand.warningExpires (d : Dom) (serial : Byte) : QueuesStand s (s.warningExpires d serial) := by
  unfold State.warningExpires
  split
  · exact .endWarning s d
  · exact .refl s

theorem QueuesStand.pinUpdates (g : Pin) (serial : Byte) : QueuesStand s (s.pinUpdates g serial) := by
  unfold State.pinUpdates
  split
  · split
    · exact .refl s
    · split
      · exact .refl s
      · exact .setValue s _ _
  · exact .refl s

theorem QueuesStand.carryOutRequest (r : Taking) : QueuesStand s (s.carryOutRequest r) := by
  cases r with
  | teardown p => exact .teardown s p
  | notice p v => exact .setValue s _ _
  | deadline p k f => exact .expire s p f
  | warning d serial => exact .warningExpires s d serial
  | pinUpdate g serial => exact .pinUpdates s g serial
  | command p q => exact .refl s

end operations

end Sys2Proof.Machine
end

section
/-! Every command leaves every port's queues: it is out of its own queue before it is carried out, and its answer is sent when
it is done (R133, R147). -/

namespace Sys2Proof.Machine

open Sys2Proof

section commands
variable (s : State) (p : Port)

theorem QueuesStand.declareCommand (id : Half) (kind init dflt dom policy : Byte) :
    QueuesStand s (s.declare p id kind init dflt dom policy).state := by
  rcases s.declare_cases p id kind init dflt dom policy with h | ⟨i, r, h⟩
  · rw [h]
    exact .refl s
  · exact .of_same (by rw [h.next]) h.ports

theorem QueuesStand.retireCommand (h : Handle) : QueuesStand s (s.retire p h).state := by
  refine withHandle_keeps (.refl s) fun i r hr => refusedIf_keeps (.refl s) fun _ => refusedIf_keeps (.refl s) fun _ => ?_
  split
  · dsimp only
    exact .retireRecord hr
  · exact .refl s

theorem QueuesStand.claim (h : Handle) : QueuesStand s (s.claim p h).state := by
  refine withHandle_keeps (.refl s) fun i r _ => refusedIf_keeps (.refl s) fun _ => refusedIf_keeps (.refl s) fun _ => ?_
  split
  · exact .of_same rfl rfl
  · split <;> exact .refl s
  · exact .refl s
  · exact .refl s

theorem QueuesStand.lookup (id : Half) : QueuesStand s (s.lookup id).state := by
  unfold State.lookup
  split
  · exact .refl s
  · split <;> exact .refl s

theorem QueuesStand.lock (h : Handle) : QueuesStand s (s.lock p h).state :=
  controlOnly_keeps (.refl s) (withHandle_keeps (.refl s) fun _ _ _ => refusedIf_keeps (.refl s) fun _ =>
    refusedIf_keeps (.refl s) fun _ => .of_same rfl rfl)

theorem QueuesStand.writeValue (i : SlotNo) (r : Record) (v : Byte) : QueuesStand s (s.writeValue i r v).state := by
  unfold State.writeValue
  split
  · exact .refl s
  · exact .change s i v 0

theorem QueuesStand.set (h : Handle) (v : Byte) : QueuesStand s (s.set p h v).state := by
  refine withHandle_keeps (.refl s) fun i r _ => refusedIf_keeps (.refl s) fun _ => ?_
  split
  · exact .refl s
  · exact .writeValue s i r v

theorem QueuesStand.setIf (h : Handle) (e : Half) (v : Byte) : QueuesStand s (s.setIf p h e v).state := by
  refine withHandle_keeps (.refl s) fun i r _ => refusedIf_keeps (.refl s) fun _ => ?_
  split
  · exact .refl s
  · split
    · exact .refl s
    · exact .writeValue s i r v

theorem QueuesStand.raise (h : Handle) (n : Byte) : QueuesStand s (s.raise p h n).state := by
  refine withHandle_keeps (.refl s) fun i r _ => refusedIf_keeps (.refl s) fun _ => refusedIf_keeps (.refl s) fun _ => ?_
  split
  · exact .refl s
  · exact .change s i _ _

theorem QueuesStand.createSub (i : SlotNo) (new : Sub) : QueuesStand s (s.createSub i p new) :=
  .trans (.updSub s i p _) (.updSub _ i p _)

theorem QueuesStand.subscribe (h : Handle) (prio cond m mode cls attrs : Byte) :
    QueuesStand s (s.subscribe p h prio cond m mode cls attrs).state := by
  refine withHandle_keeps (.refl s) fun i r _ => ?_
  split
  · exact .refl s
  · next new _ =>
    have hcreated : QueuesStand s (s.createSub i p new) := .createSub s p i new
    split
    · refine refusedIf_keeps (.refl s) fun _ => ?_
      dsimp only [State.replaceSub]
      split
      · exact hcreated.trans (.departOn _ i p)
      · exact hcreated
    · exact refusedIf_keeps (.refl s) fun _ => hcreated

theorem QueuesStand.unsubscribe (h : Handle) : QueuesStand s (s.unsubscribe p h).state := by
  refine withHandle_keeps (.refl s) fun i r _ => ?_
  split
  · exact .refl s
  · refine refusedIf_keeps (.refl s) fun _ => ?_
    dsimp only [State.unsubscribeSub]
    split
    · exact .trans (.updSub s i p _) (.departOn _ i p)
    · exact .updSub s i p _

theorem QueuesStand.takeIntoService (i : SlotNo) (u : Sub) (token : Byte) : QueuesStand s (s.takeIntoService p i u token) := by
  have hstarted : ∀ t : State, QueuesStand t (t.startDeadline p u.priority i token u.cls) := fun t => by
    unfold State.startDeadline
    split
    · exact .refl t
    · exact .of_same rfl rfl
  exact ((((QueuesStand.modService s p _).trans (.updSub _ i p _)).trans (.modService _ p _)).trans (hstarted _)).trans
    (.owe _ p)

theorem QueuesStand.acquire : QueuesStand s (s.acquire p).state := by
  rcases s.acquire_cases p with h | ⟨i, r, u, -, -, h⟩
  · rw [h]
    exact .refl s
  · rw [h]
    exact .takeIntoService s p i u _

theorem QueuesStand.endEntry (e : Entry) : QueuesStand s (s.endEntry p e) := by
  have hback : QueuesStand s (((s.cancelFor p e.slot).removeEntry p e.slot).overdueBack p e) :=
    .trans (.of_acts (entryGone_acts s p e.slot)) (.of_acts (overdueBack_acts _ p e))
  have hreleased := hback.trans (.of_acts (releaseSub_acts _ p e.slot))
  exact (hreleased.trans (.of_acts (acknowledge_acts _ p e.slot _))).trans (.owe _ p)

theorem QueuesStand.release (h : Handle) : QueuesStand s (s.release p h).state := by
  refine withHandle_keeps (.refl s) fun i r _ => ?_
  split
  · exact .refl s
  · exact .endEntry s p _

theorem QueuesStand.releaseTop : QueuesStand s (s.releaseTop p).state := by
  unfold State.releaseTop
  split
  · exact .refl s
  · exact .endEntry s p _

theorem QueuesStand.setThreshold (t : Byte) : QueuesStand s (s.setThreshold p t).state := by
  unfold State.setThreshold
  split
  · exact .trans (.modService s p _) (.owe _ p)
  · exact .refl s

theorem QueuesStand.startWarning (d : Dom) (timeout : Byte) : QueuesStand s (s.startWarning d timeout) := by
  have htimer : ∀ t : State, QueuesStand t (t.startWarningTimer d (s.domains[d].serial + 1#8) timeout) := fun t => by
    unfold State.startWarningTimer
    split
    · exact .refl t
    · exact .of_same rfl rfl
  exact .trans (.trans (.modDomain s d _) (.setValue _ (domainSlot d) (domStateByte .warning))) (htimer _)

theorem QueuesStand.resetDomain (d : Dom) (mode : ResetMode) (timeout : Byte) :
    QueuesStand s (s.resetDomain d mode timeout).state := by
  have hnow : QueuesStand s (s.resetNow d).state := .of_acts (Follows.resetNow s d).acts
  unfold State.resetDomain
  split
  · split
    · exact .startWarning s d timeout
    · exact hnow
  · exact hnow
  · exact .refl s
  · dsimp only
    exact .endWarning s d
  · exact .refl s

theorem QueuesStand.domainReset (dom mode timeout : Byte) : QueuesStand s (s.domainReset p dom mode timeout).state := by
  refine controlOnly_keeps (.refl s) ?_
  split
  · exact .resetDomain s _ _ timeout
  · exact .refl s

theorem QueuesStand.reapply (d : Dom) : QueuesStand s (s.reapply d).1 := by
  have hslots : ∀ (l : List SlotNo) (acc : State × Nat), QueuesStand acc.1 (l.foldl (State.reapplySlot d) acc).1 := by
    intro l
    induction l with
    | nil => exact fun acc => .refl acc.1
    | cons i l ih =>
      intro acc
      have hslot : QueuesStand acc.1 (State.reapplySlot d acc i).1 := by
        unfold State.reapplySlot
        split
        · exact .refl _
        · split
          · exact .refl _
          · exact .change _ i _ 0
      exact hslot.trans (ih _)
  exact hslots (List.finRange 128) (s, 0)

theorem QueuesStand.domainRelease (dom : Byte) : QueuesStand s (s.domainRelease p dom).state := by
  refine controlOnly_keeps (.refl s) ?_
  split
  · exact .refl s
  · next d _ =>
    unfold State.releaseDomain
    split
    · exact .refl s
    · have hidle : QueuesStand s (s.cancelWarningTimer d) := .of_same rfl rfl
      exact (hidle.trans (.modDomain _ d _)).trans (.setValue _ _ _)
    · dsimp only [State.releaseHeld]
      exact .trans (.trans (.modDomain s d _) (.setValue _ (domainSlot d) (domStateByte .run))) (.reapply _ d)

theorem QueuesStand.bindInput (g : Pin) (i : SlotNo) (f : Fin 16) (a : Level) (found : Option Level) :
    QueuesStand s (s.bindInput g i f a found) := by
  have hbound : QueuesStand s { s.inputBinding g i f a (foundLevel s.samples g found .highZ) with samples := s.samples + 1 } :=
    .of_same rfl rfl
  unfold State.bindInput
  dsimp only
  split
  · exact hbound
  · exact hbound.trans (.setValue _ i _)

theorem QueuesStand.bindPin (found : Option Level) (pin : Byte) (h : Handle) (dir active filter : Byte) :
    QueuesStand s (s.bindPin p found pin h dir active filter).state := by
  refine controlOnly_keeps (.refl s) (withHandle_keeps (.refl s) fun i r _ => refusedIf_keeps (.refl s) fun _ => ?_)
  split
  · split
    · exact .refl s
    · dsimp only
      split
      · exact .bindInput s _ i _ _ found
      · exact .of_same rfl rfl
  · exact .refl s

theorem QueuesStand.unbindPin (pin : Byte) : QueuesStand s (s.unbindPin p pin).state := by
  refine controlOnly_keeps (.refl s) ?_
  split
  · exact .refl s
  · next g _ =>
    split
    · exact .refl s
    · next b _ => exact .unbindFrom s g b

theorem QueuesStand.pinQuery (pin : Byte) : QueuesStand s (s.pinQuery pin).state := by
  unfold State.pinQuery
  split <;> exact .refl s

theorem QueuesStand.evict (port : Byte) : QueuesStand s (s.evict p port).state := by
  refine controlOnly_keeps (.refl s) ?_
  split
  · exact .refl s
  · next target _ =>
    exact refusedIf_keeps (.refl s) fun _ => refusedIf_keeps (.refl s) fun _ =>
      .modPort s target (fun x => { x with inEvict := true }) fun _ => ⟨rfl, rfl, rfl, rfl, rfl⟩

theorem QueuesStand.carryOut (found : Option Level) (c : Command) : QueuesStand s (s.carryOut p found c).state := by
  cases c with
  | declare id kind init dflt dom policy => exact .declareCommand s p id kind init dflt dom policy
  | retire h => exact .retireCommand s p h
  | claim h => exact .claim s p h
  | lookup id => exact .lookup s id
  | lock h => exact .lock s p h
  | set h v => exact .set s p h v
  | setIf h e v => exact .setIf s p h e v
  | raise h n => exact .raise s p h n
  | read h => exact withHandle_keeps (.refl s) fun _ _ _ => .refl s
  | readGroup l => exact refusedIf_keeps (.refl s) fun _ => .refl s
  | subscribe h prio cond m mode cls attrs => exact .subscribe s p h prio cond m mode cls attrs
  | unsubscribe h => exact .unsubscribe s p h
  | acquire => exact .acquire s p
  | release h => exact .release s p h
  | releaseTop => exact .releaseTop s p
  | threshold t => exact .setThreshold s p t
  | serviceList => exact .refl s
  | domainReset dom mode timeout => exact .domainReset s p dom mode timeout
  | domainRelease dom => exact .domainRelease s p dom
  | bindPin pin h dir active filter => exact .bindPin s p found pin h dir active filter
  | unbindPin pin => exact .unbindPin s p pin
  | pinQuery pin => exact .pinQuery s pin
  | evict port => exact .evict s p port

end commands

end Sys2Proof.Machine
end

section
/-! The bounds of one port's queues (R124, R146), and the frames and deliveries that keep them (R130 to R141). -/

namespace Sys2Proof.Machine

open Sys2Proof

/-! ## One port -/

/-- R124 and R146 at one port; `chosen` says that a command of it is held as chosen, whose answer is counted. -/
structure PortState.Within (chosen : Bool) (x : PortState) : Prop where
  submit : x.submit.length ≤ 4
  answers : x.answers.length + (if x.inAnswer.isSome then 1 else 0) + (if chosen then 1 else 0) ≤ 8
  closed : x.link ≠ .opened → x.submit = [] ∧ x.answers = []
  outstanding : x.outstanding.isSome → x.answers ≠ []

theorem queuesWithin_iff {s : State} : QueuesWithin s ↔ ∀ p : Port, (s.ports[p]).Within (s.chosenAt p) :=
  forall_congr' fun _ => ⟨fun ⟨h1, h2, h3, h4⟩ => ⟨h1, h2, h3, h4⟩, fun ⟨h1, h2, h3, h4⟩ => ⟨h1, h2, h3, h4⟩⟩

section port
variable {chosen : Bool} {x y : PortState}

theorem PortState.Within.of_same (h : x.Within chosen) (k : SameQueues x y) : y.Within chosen := by
  obtain ⟨h1, h2, h3, h4⟩ := h
  rw [← k.submit] at h1 h3
  rw [← k.answers] at h2 h3 h4
  rw [← k.inAnswer] at h2
  rw [← k.link] at h3
  rw [← k.outstanding] at h4
  exact ⟨h1, h2, h3, h4⟩

/-- Empty queues are within every bound. -/
theorem PortState.Within.of_empty (hsubmit : x.submit = []) (hanswers : x.answers = []) (hout : x.outstanding = none) :
    x.Within chosen := by
  refine ⟨by rw [hsubmit]; decide, ?_, fun _ => ⟨hsubmit, hanswers⟩, by rw [hout]; exact nofun⟩
  rw [hanswers, List.length_nil]
  split <;> split <;> omega

/-- An answer that is not outstanding stands in no queue of a port that is not OPEN. -/
theorem PortState.Within.idle (h : x.Within chosen) (hl : x.link ≠ .opened) : x.outstanding = none :=
  Option.not_isSome_iff_eq_none.mp fun ho => h.outstanding ho (h.closed hl).2

/-- Outside OPEN a port keeps the bounds whatever its link state becomes. -/
theorem PortState.Within.relink (h : x.Within chosen) (hl : x.link ≠ .opened) (hsubmit : y.submit = x.submit)
    (hanswers : y.answers = x.answers) (hout : y.outstanding = x.outstanding) : y.Within chosen :=
  .of_empty (hsubmit.trans (h.closed hl).1) (hanswers.trans (h.closed hl).2) (hout.trans (h.idle hl))

/-! ## Frames -/

theorem PortState.Within.goodFrame (h : x.Within chosen) : x.goodFrame.Within chosen := h.of_same ⟨rfl, rfl, rfl, rfl, rfl⟩

theorem PortState.Within.replies (h : x.Within chosen) (code : ReplyCode) (body : List Byte) :
    (x.replies code body).Within chosen := h.of_same ⟨rfl, rfl, rfl, rfl, rfl⟩

theorem PortState.Within.leaveOpen (x : PortState) (c : Cause) : (x.leaveOpen c).Within chosen := .of_empty rfl rfl rfl

theorem PortState.Within.hello (h : x.Within chosen) (body : List Byte) : (x.hello body).Within chosen := by
  have hgood := h.goodFrame
  unfold PortState.hello
  dsimp only
  split
  · exact hgood.replies _ _
  · split
    · next hl =>
      refine .replies ?_ _ _
      exact hgood.relink (by rw [hl]; exact nofun) rfl rfl rfl
    · exact hgood.replies _ _
    · exact hgood.replies _ _
    · exact hgood.replies _ _
    · exact hgood

/-- A command joins the tail of a queue only where a slot is free (R132). -/
theorem PortState.Within.submitFrame (h : x.Within chosen) (body : List Byte) : (x.submitFrame body).Within chosen := by
  have hgood := h.goodFrame
  unfold PortState.submitFrame
  dsimp only
  split
  · exact hgood.replies _ _
  · exact hgood.replies _ _
  · exact hgood.replies _ _
  · exact hgood
  · next hl =>
    split
    · exact hgood.replies _ _
    · split
      · exact hgood.replies _ _
      · next hroom =>
        refine .replies ?_ _ _
        refine ⟨?_, hgood.answers, fun hn => absurd hl hn, hgood.outstanding⟩
        rw [List.length_append]
        exact Nat.not_le.mp hroom

theorem PortState.Within.deliver (h : x.Within chosen) (seq : BitVec 4) : (x.deliver seq).Within chosen := by
  unfold PortState.deliver
  split
  · exact h.replies _ _
  · next ha =>
    refine .replies ?_ _ _
    exact ⟨h.submit, h.answers, h.closed, fun _ => by simp [ha]⟩

theorem PortState.Within.deliverNew (h : x.Within chosen) : x.deliverNew.Within chosen := by
  unfold PortState.deliverNew
  split
  · exact h.deliver _
  · refine .deliver ?_ _
    exact h.of_same ⟨rfl, rfl, rfl, rfl, rfl⟩

/-- An answer acknowledged leaves the head of the queue (R135). -/
theorem PortState.Within.retired (h : x.Within chosen) {a : Answer} {rest : List Answer} (ha : x.answers = a :: rest) :
    ({ x with answers := rest, outstanding := none } : PortState).Within chosen := by
  refine ⟨h.submit, ?_, fun hl => ?_, nofun⟩
  · have := h.answers
    rw [ha, List.length_cons] at this
    dsimp only
    omega
  · have := (h.closed hl).2
    rw [ha] at this
    cases this

theorem PortState.Within.pull (h : x.Within chosen) (body : List Byte) : (x.pull body).Within chosen := by
  have hgood := h.goodFrame
  unfold PortState.pull
  dsimp only
  split
  · exact hgood.replies _ _
  · split
    · exact hgood.replies _ _
    · exact hgood.replies _ _
    · exact hgood.replies _ _
    · exact hgood
    · unfold PortState.pullOpen
      split
      · exact hgood.deliverNew
      · exact hgood.deliverNew
      · next ha _ =>
        split
        · exact (hgood.retired ha).deliverNew
        · exact hgood.deliver _

theorem PortState.Within.resetLink (h : x.Within chosen) (body : List Byte) : (x.resetLink body).Within chosen := by
  have hgood := h.goodFrame
  unfold PortState.resetLink
  dsimp only
  split
  · exact hgood.replies _ _
  · split
    · exact (PortState.Within.leaveOpen _ _).replies _ _
    · exact hgood.replies _ _
    · next hl =>
      refine .replies ?_ _ _
      exact hgood.relink (by rw [hl]; exact nofun) rfl rfl rfl
    · exact hgood.replies _ _
    · exact hgood

theorem PortState.Within.peek (h : x.Within chosen) (body : List Byte) : (x.peek body).Within chosen := by
  unfold PortState.peek
  split <;> exact h.goodFrame.replies _ _

theorem PortState.Within.faultReached (h : x.Within chosen) : x.faultReached.Within chosen := by
  unfold PortState.faultReached
  split
  · exact .leaveOpen _ _
  · next hl => exact h.relink (by rw [hl]; exact nofun) rfl rfl rfl
  · exact h
  · exact h
  · exact h

theorem PortState.Within.badFrame (h : x.Within chosen) (form : BadForm) : (x.badFrame form).Within chosen := by
  have hcounted : (if x.badCount = 4 then x else { x with badCount := x.badCount + 1 }).Within chosen := by
    split
    · exact h
    · exact h.of_same ⟨rfl, rfl, rfl, rfl, rfl⟩
  unfold PortState.badFrame
  dsimp only
  generalize (if x.badCount = 4 then x else { x with badCount := x.badCount + 1 }) = y at hcounted
  have hfault : (if x.badCount = 3 then y.faultReached else y).Within chosen := by
    split
    · exact hcounted.faultReached
    · exact hcounted
  cases form with
  | badCrc => exact hfault.replies _ _
  | cutShort | overLong => exact hfault.of_same ⟨rfl, rfl, rfl, rfl, rfl⟩

/-! ## Deliveries -/

/-- The answer on its way was counted before it joins the queue (R134, R146). -/
theorem PortState.Within.answerArrives (h : x.Within chosen) : x.answerArrives.Within chosen := by
  unfold PortState.answerArrives
  split
  · exact h
  · next a ha =>
    have hbound := h.answers
    rw [ha, Option.isSome_some, if_pos rfl] at hbound
    split
    · next hl =>
      refine ⟨h.submit, ?_, fun hn => absurd hl hn, fun _ => by simp⟩
      simpa using hbound
    all_goals
      refine ⟨h.submit, ?_, h.closed, h.outstanding⟩
      simp only [Option.isSome_none, Bool.false_eq_true, if_false]
      omega

theorem PortState.Within.indicationArrives (h : x.Within chosen) : x.indicationArrives.Within chosen := by
  unfold PortState.indicationArrives
  split
  · exact h
  · exact h.of_same ⟨rfl, rfl, rfl, rfl, rfl⟩

theorem PortState.Within.evictArrives (h : x.Within chosen) : x.evictArrives.Within chosen := by
  unfold PortState.evictArrives
  split
  · split
    · exact .leaveOpen _ _
    all_goals exact h.of_same ⟨rfl, rfl, rfl, rfl, rfl⟩
  · exact h

theorem PortState.Within.completionArrives (h : x.Within chosen) : x.completionArrives.Within chosen := by
  unfold PortState.completionArrives
  split
  · split
    · next hl => exact h.relink (by rw [hl]; exact nofun) rfl rfl rfl
    · next hl => exact h.relink (by rw [hl]; exact nofun) rfl rfl rfl
    · next hl => exact h.relink (by rw [hl]; exact nofun) rfl rfl rfl
    all_goals exact h.of_same ⟨rfl, rfl, rfl, rfl, rfl⟩
  · exact h

end port

end Sys2Proof.Machine
end

section
/-! Every row keeps the bounds of the queues (R124, R133, R146): a command leaves its submit queue when it is chosen, only a
port with room for the answer is ready, and between the choice and the answer's arrival the answer is counted. -/

namespace Sys2Proof.Machine

open Sys2Proof

/-! ## The choice of a command -/

/-- No internal request is a command. -/
theorem State.internalRequests_ne_command {s : State} {r : Taking} (h : r ∈ s.internalRequests) (p : Port) (q : Queued) :
    r ≠ .command p q := by
  rintro rfl
  simp [State.internalRequests] at h

/-- The engine takes a command that a tick found chosen, or one at a port that is ready (R145). -/
theorem State.choice_command {s : State} {p : Port} {q : Queued} (h : s.choice = some (.command p q)) :
    s.taking = some (.command p q) ∨ (s.ports[p]).ready = true := by
  have hquiet := State.choice_quiet s h
  cases ht : s.taking with
  | some r =>
    rw [State.choice_taking s ht, if_pos hquiet] at h
    exact .inl h
  | none =>
    rw [State.choice_next s ht, if_pos hquiet, State.nextRequest] at h
    cases hi : s.internalRequests.head? with
    | some r =>
      rw [hi] at h
      exact absurd (Option.some.inj h) (State.internalRequests_ne_command (List.mem_of_head? hi) p q)
    | none =>
      rw [hi] at h
      obtain ⟨p', hp', hq⟩ := Option.bind_eq_some_iff.mp (show s.readyCommand = _ from h)
      obtain ⟨q', -, he⟩ := Option.map_eq_some_iff.mp hq
      cases he
      have hready := List.find?_some hp'
      exact .inr hready

section rows
variable {s : State}

theorem State.chosenAt_command {p : Port} {q : Queued} (h : s.taking = some (.command p q)) : s.chosenAt p = true := by
  rw [State.chosenAt, h]
  exact decide_eq_true rfl

/-- A port at which a command is held as chosen is that command's. -/
theorem State.taking_of_chosenAt {p : Port} (h : s.chosenAt p = true) : ∃ q, s.taking = some (.command p q) := by
  unfold State.chosenAt at h
  split at h
  · next p' q hq =>
    obtain rfl := of_decide_eq_true h
    exact ⟨q, hq⟩
  · cases h
  · cases h

theorem State.chosenAt_none (h : s.taking = none) (p : Port) : s.chosenAt p = false := by
  rw [State.chosenAt, h]

/-- The answer of the command chosen has room in its port's queue, and none is on its way (R143, R146). -/
theorem QueuesWithin.room (hs : QueuesWithin s) {p : Port} {q : Queued} (h : s.choice = some (.command p q)) :
    (s.ports[p]).answers.length + 1 ≤ 8 := by
  rcases State.choice_command h with ht | hready
  · have := (queuesWithin_iff.mp hs p).answers
    rw [State.chosenAt_command ht, if_pos rfl] at this
    omega
  · simp only [PortState.ready, Bool.and_eq_true, decide_eq_true_eq] at hready
    exact hready.2

/-! ## A request taken -/

/-- Clearing a flag alters no queue; a command chosen leaves the head of its own. -/
theorem State.clearFlag_queues (s : State) (r : Taking) (q : Port) :
    SameQueues s.ports[q] (s.clearFlag r).ports[q]
      ∨ SameQueues { s.ports[q] with submit := s.ports[q].submit.tail } (s.clearFlag r).ports[q] := by
  cases r with
  | teardown p =>
    have hcleared : QueuesStand s (s.clearFlag (.teardown p)) :=
      .modPort s p (fun x => { x with teardown := false }) fun _ => ⟨rfl, rfl, rfl, rfl, rfl⟩
    exact .inl (hcleared.ports q)
  | notice p v =>
    have hcleared : QueuesStand s (s.clearFlag (.notice p v)) :=
      .modPort s p (fun x => { x with notice := none }) fun _ => ⟨rfl, rfl, rfl, rfl, rfl⟩
    exact .inl (hcleared.ports q)
  | deadline | warning | pinUpdate => exact .inl (.refl _)
  | command p c =>
    rw [State.clearFlag, State.modPort_get]
    split
    · next hq => exact .inr (hq ▸ .refl _)
    · exact .inl (.refl _)

theorem PortState.Within.unchosen {chosen : Bool} {x : PortState} (h : x.Within chosen) : x.Within false :=
  ⟨h.submit, Nat.le_trans (Nat.add_le_add_left (by simp) _) h.answers, h.closed, h.outstanding⟩

/-- A command leaves the head of a submit queue. -/
theorem PortState.Within.tail {chosen : Bool} {x : PortState} (h : x.Within chosen) :
    ({ x with submit := x.submit.tail } : PortState).Within chosen := by
  refine ⟨?_, h.answers, fun hl => ⟨by rw [(h.closed hl).1]; rfl, (h.closed hl).2⟩, h.outstanding⟩
  have := h.submit
  rw [List.length_tail]
  omega

theorem PortState.Within.clearFlag {q : Port} {chosen : Bool} (h : (s.ports[q]).Within chosen) (r : Taking) :
    ((s.clearFlag r).ports[q]).Within chosen :=
  (s.clearFlag_queues r q).elim h.of_same h.tail.of_same

/-- An answer more is counted at a port where none is on its way. -/
theorem PortState.Within.counting {chosen : Bool} {x : PortState} (h : x.Within false)
    (hroom : chosen = true → x.inAnswer = none ∧ x.answers.length + 1 ≤ 8) : x.Within chosen := by
  cases chosen with
  | false => exact h
  | true =>
    obtain ⟨hnone, hroom⟩ := hroom rfl
    exact ⟨h.submit, by rw [hnone]; exact hroom, h.closed, h.outstanding⟩

theorem State.clearFlag_answers (s : State) (r : Taking) (q : Port) :
    (s.clearFlag r).ports[q].answers = s.ports[q].answers ∧ (s.clearFlag r).ports[q].inAnswer = s.ports[q].inAnswer :=
  (s.clearFlag_queues r q).elim (fun h => ⟨h.answers, h.inAnswer⟩) fun h => ⟨h.answers, h.inAnswer⟩

/-- The fall of a tick counts the answer of the command it finds chosen (assumption 19). -/
theorem QueuesWithin.engaged (hs : QueuesWithin s) : QueuesWithin s.engaged := by
  rw [State.engaged_spec]
  split
  · next r ht hc =>
    refine queuesWithin_iff.mpr fun p => ((queuesWithin_iff.mp hs p).unchosen.clearFlag r).counting fun hchosen => ?_
    obtain ⟨q, hq⟩ := State.taking_of_chosenAt hchosen
    obtain rfl : r = .command p q := Option.some.inj hq
    obtain ⟨hanswers, hin⟩ := s.clearFlag_answers (.command p q) p
    rw [hanswers, hin]
    exact ⟨((State.quiet_spec s (State.choice_quiet s hc)).2.2 p).1, hs.room hc⟩
  · exact hs
  · exact hs

theorem QueuesWithin.taken (hs : QueuesWithin s) (r : Taking) : QueuesWithin (s.taken r) := by
  refine queuesWithin_iff.mpr fun p => ?_
  have hp := (queuesWithin_iff.mp hs p).unchosen
  rw [State.chosenAt_none (s.taken_taking r), State.taken_spec]
  split
  · exact hp.clearFlag r
  · exact hp

theorem State.taken_answers (s : State) (r : Taking) (q : Port) : (s.taken r).ports[q].answers = s.ports[q].answers := by
  rw [State.taken_spec]
  split
  · exact (s.clearFlag_answers r q).1
  · rfl

/-! ## The rows -/

theorem QueuesStand.within {t : State} (h : QueuesStand s t) (hs : QueuesWithin s) : QueuesWithin t := by
  refine queuesWithin_iff.mpr fun p => ?_
  have hchosen : t.chosenAt p = s.chosenAt p := by simp only [State.chosenAt, h.taking]
  rw [hchosen]
  exact (queuesWithin_iff.mp hs p).of_same (h.ports p)

theorem QueuesWithin.modPort (hs : QueuesWithin s) {p : Port} {f : PortState → PortState}
    (hf : ∀ {chosen x}, x.Within chosen → (f x).Within chosen) : QueuesWithin (s.modPort p f) := by
  refine queuesWithin_iff.mpr fun q => ?_
  rw [State.modPort_get]
  split
  · next hq => exact hq ▸ hf (queuesWithin_iff.mp hs q)
  · exact queuesWithin_iff.mp hs q

theorem QueuesWithin.takeFrame (hs : QueuesWithin s) {p : Port} {f : PortState → PortState}
    (hf : ∀ {chosen x}, x.Within chosen → (f x).Within chosen) : QueuesWithin (s.takeFrame p f) := by
  unfold State.takeFrame
  split
  · exact hs.modPort hf
  · exact hs

theorem QueuesWithin.internal (hs : QueuesWithin s) {pick : Taking → Option (State → State)}
    (h : ∀ r act, pick r = some act → ∀ t, act t = t.carryOutRequest r) : QueuesWithin (s.takeInternal pick) := by
  unfold State.takeInternal
  split
  · exact hs
  · next r _ =>
    split
    · exact hs
    · next act ha =>
      rw [h r act ha]
      exact ((QueuesStand.carryOutRequest _ r).trans (.sendIndications _)).within (hs.taken r)

/-- A command carried out leaves the queues, and its answer is then counted as on its way (R147). -/
theorem QueuesWithin.command (hs : QueuesWithin s) {p : Port} {act : Command → Option (State → Done)} (found : Option Level)
    (h : ∀ c f, act c = some f → ∀ t, f t = t.carryOut p found c) : QueuesWithin (s.takeCommand p act) := by
  rcases s.takeCommand_cases p act with he | ⟨q, f, a, hc, hf, he⟩
  · rw [he]
    exact hs
  · rw [he, h _ f hf]
    have hserving : QueuesWithin (s.serving p q) := hs.taken (.command p q)
    have hdone := QueuesStand.carryOut (s.serving p q) p found q.command
    have hanswers : (s.serving p q).ports[p].answers = s.ports[p].answers := s.taken_answers (.command p q) p
    have hidle : (s.serving p q).taking = none := s.taken_taking (.command p q)
    generalize s.serving p q = m at hserving hdone hanswers hidle
    generalize (m.carryOut p found q.command).state = t at hdone
    refine (QueuesStand.sendIndications _).within (queuesWithin_iff.mpr fun j => ?_)
    have hj := queuesWithin_iff.mp (hdone.within hserving) j
    have hnone : t.taking = none := hdone.taking.trans hidle
    rw [State.chosenAt_none hnone] at hj
    rw [State.chosenAt_none (s := t.sendAnswer p a) hnone, State.sendAnswer, State.modPort_get]
    split
    · next hjp =>
      subst hjp
      refine ⟨hj.submit, ?_, hj.closed, hj.outstanding⟩
      rw [Option.isSome_some, if_pos rfl, (hdone.ports j).answers, hanswers]
      exact hs.room hc
    · exact hj

theorem QueuesWithin.cold (s : State) : QueuesWithin s.cold := by
  refine queuesWithin_iff.mpr fun p => ?_
  rw [State.cold_port]
  exact .of_empty rfl rfl rfl

theorem QueuesWithin.released (s : State) (levels : Pin → Level) : QueuesWithin (s.released levels) := by
  refine queuesWithin_iff.mpr fun p => ?_
  rw [State.released_port]
  exact .of_empty rfl rfl rfl

/-- Any row keeps the bounds of the queues. -/
theorem exec_queuesWithin (c : Instr) (hs : QueuesWithin s) : ∃ t, exec c s = .next t ∧ QueuesWithin t := by
  have hsame : ∀ {t : State}, t.taking = s.taking → t.ports = s.ports → QueuesWithin t := fun htaking hports =>
    (QueuesStand.of_same htaking hports).within hs
  cases c with
  | coldReset => exact ⟨_, rfl, .cold s⟩
  | resetRelease board =>
    refine ⟨_, rfl, ?_⟩
    split
    · exact .released s _
    · exact hs
  | tick board =>
    refine ⟨_, rfl, ?_⟩
    split
    · exact (QueuesStand.of_same rfl rfl).within hs.engaged
    · exact hs
  | refclkRisingEdge =>
    refine ⟨_, rfl, ?_⟩
    split
    · exact hsame rfl rfl
    · exact hs
  | filterAccept g => exact ⟨_, rfl, hsame rfl rfl⟩
  | deadlineTimerRunOut p k => exact ⟨_, rfl, hsame rfl rfl⟩
  | warningTimerRunOut d => exact ⟨_, rfl, hsame rfl rfl⟩
  | hello p body => exact ⟨_, rfl, hs.takeFrame (·.hello body)⟩
  | submit p body => exact ⟨_, rfl, hs.takeFrame (·.submitFrame body)⟩
  | pull p body => exact ⟨_, rfl, hs.takeFrame (·.pull body)⟩
  | resetLink p body => exact ⟨_, rfl, hs.takeFrame (·.resetLink body)⟩
  | peek p body => exact ⟨_, rfl, hs.takeFrame (·.peek body)⟩
  | badFrame p form => exact ⟨_, rfl, hs.takeFrame (·.badFrame form)⟩
  | unknownKindFrame p kind body => exact ⟨_, rfl, hs.takeFrame fun h => h.goodFrame.replies _ _⟩
  | answerArrival p => exact ⟨_, rfl, hs.modPort (·.answerArrives)⟩
  | eligibleIndication p => exact ⟨_, rfl, hs.modPort (·.indicationArrives)⟩
  | evictRequest p => exact ⟨_, rfl, hs.modPort (·.evictArrives)⟩
  | teardownCompletion p => exact ⟨_, rfl, hs.modPort (·.completionArrives)⟩
  | teardownRequest p | linkNotice p | deadlineExpiryRequest p | warningExpiryRequest p | pinUpdateRequest p =>
    refine ⟨_, rfl, hs.internal fun r act h t => ?_⟩
    split at h
    · split at h
      · next hq => rw [← Option.some.inj h]; simp only [State.carryOutRequest, hq]
      · cases h
    · cases h
  | bindPin p found =>
    refine ⟨_, rfl, hs.command found fun c f h t => ?_⟩
    split at h <;> cases h
    rfl
  | declare p | retire p | claim p | lookup p | lock p | set p | setIf p | raise p | read p | readGroup p | subscribe p
  | unsubscribe p | acquire p | release p | releaseTop p | threshold p | serviceList p | domainReset p | domainRelease p
  | unbindPin p | pinQuery p | evict p =>
    refine ⟨_, rfl, hs.command none fun c f h t => ?_⟩
    split at h <;> cases h
    rfl

end rows

/-- Settles O48: no stage of a request or a command touches a queue (`QueuesStand`), each frame and delivery keeps the bounds at
its port (`PortState.Within`), and the answer of a command has room from its choice on (`QueuesWithin.room`). -/
theorem stepsKeepQueuesWithin : Obligations.StepsKeepQueuesWithin := by
  intro s t hs h
  unfold step at h
  split at h
  · cases h
    exact hs
  · next c rest _ =>
    have hrest : QueuesWithin { s with pending := rest } := hs
    obtain ⟨t', ht, hw⟩ := exec_queuesWithin c hrest
    rw [h] at ht
    cases ht
    exact hw

end Sys2Proof.Machine
end

section
/-! The body of a SUBMIT as bytes (Table 11-6, R132, R162): every command is read back from the body laid out for it, and no other
body is read as a command. -/

namespace Sys2Proof

/-! ## Halves and handles -/

theorem halfOf_hiByte_loByte (w : Half) : halfOf (hiByte w) (loByte w) = w :=
  BitVec.extractLsb'_append_extractLsb'

theorem halfBytes_halfOf (a b : Byte) : halfBytes (halfOf a b) = [a, b] := by
  rw [halfBytes, hiByte, loByte, halfOf, BitVec.extractLsb'_append_eq_left, BitVec.extractLsb'_append_eq_right]

theorem handlesOf_flatMap (hs : List Handle) : handlesOf (hs.flatMap handleBytes) = hs := by
  induction hs with
  | nil => rfl
  | cons h hs ih => exact congrArg (h :: ·) ih

theorem flatMap_handleBytes_length (hs : List Handle) : (hs.flatMap handleBytes).length = 2 * hs.length := by
  induction hs with
  | nil => rfl
  | cons h hs ih =>
    rw [List.flatMap_cons, List.length_append, ih, handleBytes, List.length_cons]
    simp only [List.length_cons, List.length_nil]
    omega

/-- An even run of bytes is that of the handles read from it. -/
theorem flatMap_handlesOf (n : Nat) (bytes : List Byte) (h : bytes.length = 2 * n) :
    (handlesOf bytes).flatMap handleBytes = bytes ∧ (handlesOf bytes).length = n := by
  induction n generalizing bytes with
  | zero =>
    obtain rfl := List.length_eq_zero_iff.mp h
    exact ⟨rfl, rfl⟩
  | succ n ih =>
    match bytes, h with
    | a :: b :: rest, h =>
      obtain ⟨hbytes, hlength⟩ := ih rest (by simp only [List.length_cons] at h; omega)
      exact ⟨congrArg (a :: b :: ·) hbytes, congrArg (· + 1) hlength⟩

/-! ## Commands -/

theorem opcodeOf_opcodeByte (o : Opcode) : opcodeOf (opcodeByte o) = some o := by cases o <;> rfl

/-- A code byte that names a command is the command's. -/
theorem opcodeByte_of_opcodeOf {b : Byte} {o : Opcode} (h : opcodeOf b = some o) : opcodeByte o = b := by
  have hfound := List.find?_some h
  exact beq_iff_eq.mp hfound

/-- A READ_GROUP counts its handles in one byte. -/
def Command.countFits (c : Command) : Prop := ∀ hs, c = .readGroup hs → hs.length < 256

theorem decodeParams_encodeParams {c : Command} (hc : c.countFits) : decodeParams c.opcode (encodeParams c) = some c := by
  cases c with
  | declare id k v d dm po => exact congrArg (fun w => some (Command.declare w k v d dm po)) (halfOf_hiByte_loByte id)
  | lookup id => exact congrArg (fun w => some (Command.lookup w)) (halfOf_hiByte_loByte id)
  | setIf h e v => exact congrArg (fun w => some (Command.setIf h w v)) (halfOf_hiByte_loByte e)
  | readGroup hs =>
    have hcount : (BitVec.ofNat 8 hs.length).toNat = hs.length := Nat.mod_eq_of_lt (hc hs rfl)
    exact (if_pos (by rw [hcount, flatMap_handleBytes_length])).trans
      (congrArg (fun l => some (Command.readGroup l)) (handlesOf_flatMap hs))
  | _ => rfl

/-- Parameter bytes that spell a command are those laid out for it. -/
theorem encodeParams_of_decodeParams {o : Opcode} {params : List Byte} {c : Command} (h : decodeParams o params = some c) :
    c.opcode = o ∧ encodeParams c = params ∧ c.countFits := by
  cases o with
  | acquire | releaseTop | serviceList =>
    match params, h with
    | [], h => cases h; exact ⟨rfl, rfl, nofun⟩
  | threshold | domainRelease | unbindPin | pinQuery | evict =>
    match params, h with
    | [_], h => cases h; exact ⟨rfl, rfl, nofun⟩
  | retire | claim | lock | read | unsubscribe | release =>
    match params, h with
    | [_, _], h => cases h; exact ⟨rfl, rfl, nofun⟩
  | lookup =>
    match params, h with
    | [a, b], h => cases h; exact ⟨rfl, halfBytes_halfOf a b, nofun⟩
  | set | raise | domainReset =>
    match params, h with
    | [_, _, _], h => cases h; exact ⟨rfl, rfl, nofun⟩
  | setIf =>
    match params, h with
    | [slot, gen, a, b, v], h =>
      cases h
      exact ⟨rfl, congrArg (fun l => slot :: gen :: (l ++ [v])) (halfBytes_halfOf a b), nofun⟩
  | bindPin =>
    match params, h with
    | [_, _, _, _, _, _], h => cases h; exact ⟨rfl, rfl, nofun⟩
  | declare =>
    match params, h with
    | [a, b, k, v, d, dm, po], h =>
      cases h
      exact ⟨rfl, congrArg (· ++ [k, v, d, dm, po]) (halfBytes_halfOf a b), nofun⟩
  | subscribe =>
    match params, h with
    | [_, _, _, _, _, _, _, _], h => cases h; exact ⟨rfl, rfl, nofun⟩
  | readGroup =>
    match params, h with
    | n :: rest, h =>
      obtain ⟨hlength, he⟩ := Option.ite_none_right_eq_some.mp
        (show (if rest.length = 2 * n.toNat then some (Command.readGroup (handlesOf rest)) else none) = some c from h)
      cases he
      obtain ⟨hbytes, hcount⟩ := flatMap_handlesOf n.toNat rest hlength
      refine ⟨rfl, ?_, fun hs hs' => ?_⟩
      · rw [encodeParams, hbytes, hcount, BitVec.ofNat_toNat, BitVec.setWidth_eq]
      · cases hs'
        exact hcount ▸ n.isLt

/-! ## Bodies -/

theorem decodeSubmit_encodeSubmit (tag : Byte) {c : Command} (hc : c.countFits) :
    decodeSubmit (encodeSubmit tag c) = some (tag, c) := by
  simp only [encodeSubmit, decodeSubmit, opcodeOf_opcodeByte, decodeParams_encodeParams hc, Option.map_some]

/-- A body that is read as a command is the one laid out for it. -/
theorem encodeSubmit_of_decodeSubmit {body : List Byte} {tag : Byte} {c : Command} (h : decodeSubmit body = some (tag, c)) :
    body = encodeSubmit tag c ∧ c.countFits := by
  unfold decodeSubmit at h
  split at h
  · next tag' code params =>
    split at h
    · next o ho =>
      obtain ⟨c', hc, he⟩ := Option.map_eq_some_iff.mp h
      cases he
      obtain ⟨hcode, hparams, hfits⟩ := encodeParams_of_decodeParams hc
      rw [encodeSubmit, hparams, hcode, opcodeByte_of_opcodeOf ho]
      exact ⟨rfl, hfits⟩
    · cases h
  · cases h

/-- Settles O45: each command's parameters are read back at their places, and parameter bytes that are read are those laid out. -/
theorem submitBodiesReadBack : Obligations.SubmitBodiesReadBack := by
  refine ⟨fun tag c hc => ⟨decodeSubmit_encodeSubmit tag hc, ?_⟩, fun body tag c h => encodeSubmit_of_decodeSubmit h⟩
  cases c with
  | readGroup hs =>
    show (encodeSubmit tag (.readGroup hs)).length = 3 + 2 * hs.length
    simp only [encodeSubmit, encodeParams, List.length_cons, flatMap_handleBytes_length]
    omega
  | _ => rfl

end Sys2Proof
end

section
/-! Frames as bytes (section 8.2, R127, R128, R161): a selection is checked for its envelope, its CRC and its kind in turn. -/

namespace Sys2Proof

/-! ## CRC-8 -/

/-- A byte taken in that equals the register leaves 00H. -/
theorem crcByte_self (r : Byte) : crcByte r r = 0#8 := by
  rw [crcByte, BitVec.xor_self]
  decide

/-- The CRC procedure run over a run of bytes and its CRC gives 00H (R161). -/
theorem crc8_append_crc8 (bytes : List Byte) : crc8 (bytes ++ [crc8 bytes]) = 0#8 := by
  rw [crc8, List.foldl_append]
  exact crcByte_self (crc8 bytes)

/-! ## Selections -/

/-- The row a frame with a good CRC makes, by its kind (Table 11-3). -/
def frameRow (p : Port) (code : Byte) (body : List Byte) : Instr :=
  match frameKindOf code with
  | some .hello => .hello p body
  | some .submit => .submit p body
  | some .pull => .pull p body
  | some .resetLink => .resetLink p body
  | some .peek => .peek p body
  | none => .unknownKindFrame p code body

section selection
variable (p : Port) {code len : Byte}

/-- A selection that holds a whole frame is settled by its CRC and its kind; bytes behind are ignored. -/
theorem decodeSelection_whole {body after : List Byte} {crc : Byte} (hlen : body.length = len.toNat)
    (hfits : len.toNat ≤ 40) :
    decodeSelection p (code :: len :: (body ++ crc :: after)) =
      if crc ≠ crc8 (code :: len :: body) then .badFrame p .badCrc else frameRow p code body := by
  have hbound : ¬ Config.maxBody < body.length := Nat.not_lt.mpr (hlen ▸ hfits)
  simp only [decodeSelection, ← hlen, if_neg hbound, List.drop_left, List.take_left]
  rfl

/-- A frame sent with its CRC is taken as the row of its kind. -/
theorem decodeSelection_frameBytes (code : Byte) {body : List Byte} (after : List Byte) (h : body.length ≤ 40) :
    decodeSelection p (frameBytes code body ++ after) = frameRow p code body := by
  have hlen : (BitVec.ofNat 8 body.length).toNat = body.length := Nat.mod_eq_of_lt (Nat.lt_of_le_of_lt h (by decide))
  have hbytes : frameBytes code body ++ after
      = code :: BitVec.ofNat 8 body.length :: (body ++ crc8 (code :: BitVec.ofNat 8 body.length :: body) :: after) := by
    simp [frameBytes]
  rw [hbytes, decodeSelection_whole p hlen.symm (hlen.symm ▸ h), if_neg (not_not.mpr rfl)]

/-- A code outside Table 11-3 names no kind. -/
theorem frameKindOf_unknown (h : code.toNat < 0xC1 ∨ 0xC5 < code.toNat) : frameKindOf code = none := by
  have hne : ∀ k : Byte, 0xC1 ≤ k.toNat ∧ k.toNat ≤ 0xC5 → code ≠ k := by
    rintro k hk rfl
    omega
  unfold frameKindOf
  rw [if_neg (hne _ (by decide)), if_neg (hne _ (by decide)), if_neg (hne _ (by decide)), if_neg (hne _ (by decide)),
    if_neg (hne _ (by decide))]

/-- A selection that ends before the CRC byte is cut short. -/
theorem decodeSelection_short {rest : List Byte} (hfits : len.toNat ≤ 40) (h : rest.length ≤ len.toNat) :
    decodeSelection p (code :: len :: rest) = .badFrame p .cutShort := by
  have hbound : ¬ Config.maxBody < len.toNat := Nat.not_lt.mpr hfits
  simp only [decodeSelection, if_neg hbound, List.drop_eq_nil_of_le h]

end selection

/-- Settles O46: the envelope is read first (`decodeSelection_short`), then the CRC and the kind (`decodeSelection_whole`). -/
theorem framesReadBack : Obligations.FramesReadBack := by
  refine ⟨fun p body after hbody => ?_, fun p => ⟨fun bytes hbytes => ?_, fun code len rest => ⟨fun hlong => ?_,
    fun hfits => ⟨fun hshort => ?_, ?_⟩⟩⟩⟩
  · refine ⟨?_, ?_, ?_, ?_, ?_, fun kind hkind => ?_, fun code => crc8_append_crc8 _⟩
    case refine_6 => rw [decodeSelection_frameBytes p kind after hbody, frameRow, frameKindOf_unknown hkind]
    all_goals
      rw [decodeSelection_frameBytes p _ after hbody]
      rfl
  · match bytes, hbytes with
    | [], _ => rfl
    | [_], _ => rfl
  · exact if_pos hlong
  · refine decodeSelection_short p hfits ?_
    simp only [List.length_cons] at hshort
    omega
  · rintro body after crc rfl hlen hcrc
    rw [decodeSelection_whole p hlen hfits, if_pos hcrc]

end Sys2Proof
end

section
/-! Which ports take a frame (R125 to R127), and HELLO as a port settles it (R131). -/

namespace Sys2Proof.Machine

open Sys2Proof

/-! ## Frames taken and not taken -/

/-- A port that takes frames is altered by the frame, and nothing else is (R127). -/
theorem State.takeFrame_listening {s : State} {p : Port} (f : PortState → PortState) (hr : s.rstLow = false)
    (hl : s.ports[p].link ≠ .off) : s.takeFrame p f = { s with ports := s.ports.set p (f s.ports[p]) } := by
  rw [State.takeFrame_spec, if_pos ⟨hr, hl⟩]

theorem State.takeFrame_silent {s : State} {p : Port} (f : PortState → PortState)
    (h : s.rstLow = true ∨ s.ports[p].link = .off) : s.takeFrame p f = s := by
  rw [State.takeFrame_spec, if_neg]
  rintro ⟨hr, hl⟩
  rcases h with h | h
  · rw [hr] at h
    cases h
  · exact hl h

/-- Settles O13: each row of a frame is `takeFrame`, which a silent port leaves alone. -/
theorem silentPortsTakeNoFrame : Obligations.SilentPortsTakeNoFrame := by
  have hsilent : ∀ {s : State} {p : Port} (f : PortState → PortState), s.rstLow = true ∨ s.ports[p].link = .off →
      (Host.Outcome.next (s.takeFrame p f) : Host.Outcome State Fault Refusal) = .next s := fun f h =>
    congrArg _ (State.takeFrame_silent f h)
  rintro s p h c (⟨body, rfl | rfl | rfl | rfl | rfl⟩ | ⟨form, rfl⟩ | ⟨kind, body, rfl⟩)
  all_goals exact hsilent _ h

/-- The class byte of a reply (Table 11-5). -/
theorem classByte_eq (c : PortClass) : classByte c = if c = .control then 0x01#8 else 0x00#8 := by cases c <;> rfl

/-! ## HELLO (R131) -/

section hello
variable {q : PortState} {body : List Byte}

theorem PortState.hello_malformed (h : body ≠ []) :
    q.hello body = { q with badCount := 0, reply := some (frameBytes 0x86#8 []) } := if_pos h

theorem PortState.hello_closed (hl : q.link = .closed) :
    q.hello [] = { q with
      badCount := 0, link := .opened, nextSeq := 0#4, notice := some .opened
      reply := some (frameBytes 0x87#8 [if q.cls = .control then 0x01#8 else 0x00#8]) } := by
  simp only [PortState.hello, PortState.goodFrame, hl, ne_eq, not_true_eq_false, if_false, classByte_eq]
  rfl

theorem PortState.hello_badState (hl : q.link = .opened ∨ q.link = .faulted) :
    q.hello [] = { q with badCount := 0, reply := some (frameBytes 0x83#8 []) } := by
  rcases hl with hl | hl <;> (simp only [PortState.hello, PortState.goodFrame, hl, ne_eq, not_true_eq_false, if_false]; rfl)

theorem PortState.hello_closing {c : Cause} (hl : q.link = .closing c) :
    q.hello [] = { q with badCount := 0, reply := some (frameBytes 0x84#8 []) } := by
  simp only [PortState.hello, PortState.goodFrame, hl, ne_eq, not_true_eq_false, if_false]
  rfl

end hello

/-- Settles O7, link state by link state. -/
theorem helloOutcomes : Obligations.HelloOutcomes := by
  intro s p body hr hoff
  refine ⟨_, congrArg _ (State.takeFrame_listening _ hr hoff), PortState.hello_malformed, ?_, ?_, ?_⟩
  · rintro rfl hl
    exact PortState.hello_closed hl
  · rintro rfl hl
    exact PortState.hello_badState hl
  · rintro c rfl hl
    exact PortState.hello_closing hl

end Sys2Proof.Machine
end

section
/-! SUBMIT and PULL as a port settles them (R132, R135). -/

namespace Sys2Proof.Machine

open Sys2Proof

/-! ## SUBMIT (R132) -/

section submit
variable {q : PortState} {body : List Byte}

theorem PortState.submitFrame_closing {c : Cause} (hl : q.link = .closing c) :
    q.submitFrame body = { q with badCount := 0, reply := some (frameBytes 0x84#8 []) } := by
  simp only [PortState.submitFrame, PortState.goodFrame, hl]
  rfl

theorem PortState.submitFrame_badState (hl : q.link = .closed ∨ q.link = .faulted) :
    q.submitFrame body = { q with badCount := 0, reply := some (frameBytes 0x83#8 []) } := by
  rcases hl with hl | hl <;> (simp only [PortState.submitFrame, PortState.goodFrame, hl]; rfl)

theorem PortState.submitFrame_malformed (hl : q.link = .opened) (hd : decodeSubmit body = none) :
    q.submitFrame body = { q with badCount := 0, reply := some (frameBytes 0x86#8 []) } := by
  simp only [PortState.submitFrame, PortState.goodFrame, hl, hd]
  rfl

variable {tag : Byte} {c : Command}

theorem PortState.submitFrame_full (hl : q.link = .opened) (hd : decodeSubmit body = some (tag, c))
    (hfull : 4 ≤ q.submit.length) :
    q.submitFrame body = { q with badCount := 0, reply := some (frameBytes 0x82#8 []) } := by
  simp only [PortState.submitFrame, PortState.goodFrame, hl, hd, Config.submitDepth, if_pos hfull]
  rfl

theorem PortState.submitFrame_accepted (hl : q.link = .opened) (hd : decodeSubmit body = some (tag, c))
    (hroom : q.submit.length < 4) :
    q.submitFrame body = { q with
      badCount := 0, submit := q.submit ++ [{ tag := tag, command := c }]
      reply := some (frameBytes 0x81#8 [BitVec.ofNat 8 (3 - q.submit.length)]) } := by
  simp only [PortState.submitFrame, PortState.goodFrame, hl, hd, Config.submitDepth, if_neg (Nat.not_le.mpr hroom),
    Nat.add_sub_add_right 3 1 q.submit.length]
  rfl

end submit

/-- Settles O8: link state, form, space, in that order. -/
theorem submitOutcomes : Obligations.SubmitOutcomes := by
  intro s p body hr hoff
  exact ⟨_, congrArg _ (State.takeFrame_listening _ hr hoff), fun _ => PortState.submitFrame_closing,
    PortState.submitFrame_badState, fun hl => ⟨PortState.submitFrame_malformed hl, fun _ _ hd =>
      ⟨PortState.submitFrame_full hl hd, PortState.submitFrame_accepted hl hd⟩⟩⟩

/-! ## PULL (R135) -/

/-- The byte by which a PULL acknowledges the sequence n, or nothing. -/
theorem ackOf_byte (ack : Option (BitVec 4)) : ackOf [(ack.map fun n => n.setWidth 8).getD 0xFF#8] = some ack := by
  have hsequence : ∀ n : BitVec 4, ackOf [n.setWidth 8] = some (some n) := by decide
  cases ack with
  | none => rfl
  | some n => exact hsequence n

/-- A body of any other form carries no acknowledgement. -/
theorem ackOf_malformed {body : List Byte} (hnone : body ≠ [0xFF#8]) (hseq : ∀ n : BitVec 4, body ≠ [n.setWidth 8]) :
    ackOf body = none := by
  unfold ackOf
  split
  · next b =>
    have hseq' : ¬ b.toNat < 16 := fun hb => by
      refine hseq (b.setWidth 4) (congrArg (fun x => [x]) (BitVec.eq_of_toNat_eq ?_))
      rw [BitVec.toNat_setWidth, BitVec.toNat_setWidth]
      omega
    rw [if_neg fun hb => hnone (by rw [hb]), if_neg hseq']
  · rfl

section pull
variable {q : PortState} {body : List Byte} {ack : Option (BitVec 4)}

theorem PortState.pull_malformed (h : ackOf body = none) :
    q.pull body = { q with badCount := 0, reply := some (frameBytes 0x86#8 []) } := by
  simp only [PortState.pull, h]
  rfl

theorem PortState.pull_closing {c : Cause} (h : ackOf body = some ack) (hl : q.link = .closing c) :
    q.pull body = { q with badCount := 0, reply := some (frameBytes 0x84#8 []) } := by
  simp only [PortState.pull, PortState.goodFrame, h, hl]
  rfl

theorem PortState.pull_badState (h : ackOf body = some ack) (hl : q.link = .closed ∨ q.link = .faulted) :
    q.pull body = { q with badCount := 0, reply := some (frameBytes 0x83#8 []) } := by
  rcases hl with hl | hl <;> (simp only [PortState.pull, PortState.goodFrame, h, hl]; rfl)

theorem PortState.pull_opened (h : ackOf body = some ack) (hl : q.link = .opened) :
    q.pull body = q.goodFrame.pullOpen ack := by
  simp only [PortState.pull, PortState.goodFrame, h, hl]

/-- The bytes of an ANSWER reply: sequence, indication, number queued and the answer (Table 11-7). -/
def answerReply (seq : BitVec 4) (eligible : Bool) (queued : Nat) (a : Answer) : List Byte :=
  frameBytes 0x89#8 ([seq.setWidth 8, yesNo eligible, BitVec.ofNat 8 queued, a.tag, opcodeByte a.code, statusByte a.status]
    ++ a.fields)

theorem PortState.deliverNew_empty (h : q.answers = []) :
    q.deliverNew = { q with reply := some (frameBytes 0x8A#8 [yesNo q.eligible, 0#8]) } := by
  have hreply : q.deliverNew = q.replies .empty [yesNo q.eligible, byteOf q.answers.length] := by
    simp only [PortState.deliverNew, PortState.deliver, h]
  have hcount : byteOf q.answers.length = 0#8 := by rw [h]; rfl
  rw [hreply, hcount]
  rfl

variable {a : Answer} {tl : List Answer}

theorem PortState.deliver_head (h : q.answers = a :: tl) (seq : BitVec 4) :
    q.deliver seq = { q with outstanding := some seq, reply := some (answerReply seq q.eligible (tl.length + 1) a) } := by
  simp only [PortState.deliver, h, List.length_cons]
  rfl

theorem PortState.deliverNew_head (h : q.answers = a :: tl) :
    q.deliverNew = { q with
      outstanding := some q.nextSeq, nextSeq := q.nextSeq + 1
      reply := some (answerReply q.nextSeq q.eligible (tl.length + 1) a) } := by
  have hdelivered : q.deliverNew = ({ q with nextSeq := q.nextSeq + 1 } : PortState).deliver q.nextSeq := by
    simp only [PortState.deliverNew, h]
  rw [hdelivered, PortState.deliver_head (q := { q with nextSeq := q.nextSeq + 1 }) h]

/-! Table 8-3, row by row. -/

theorem PortState.pullOpen_empty (h : q.answers = []) : q.pullOpen ack = q.deliverNew := by
  simp only [PortState.pullOpen, h]

theorem PortState.pullOpen_first (h : q.answers = a :: tl) (ho : q.outstanding = none) : q.pullOpen ack = q.deliverNew := by
  simp only [PortState.pullOpen, h, ho]

theorem PortState.pullOpen_acknowledged {n : BitVec 4} (h : q.answers = a :: tl) (ho : q.outstanding = some n)
    (hn : ack = some n) : q.pullOpen ack = ({ q with answers := tl, outstanding := none } : PortState).deliverNew := by
  simp only [PortState.pullOpen, h, ho, if_pos hn]

theorem PortState.pullOpen_again {n : BitVec 4} (h : q.answers = a :: tl) (ho : q.outstanding = some n)
    (hn : ack ≠ some n) : q.pullOpen ack = q.deliver n := by
  simp only [PortState.pullOpen, h, ho, if_neg hn]

end pull

/-- Settles O9: an acknowledgement the body may carry (`ackOf_byte`, `ackOf_malformed`), then the link state, then the rows of
Table 8-3. -/
theorem pullOutcomes : Obligations.PullOutcomes := by
  intro s p body hr hoff
  refine ⟨_, congrArg _ (State.takeFrame_listening _ hr hoff),
    fun hnone hseq => PortState.pull_malformed (ackOf_malformed hnone hseq), ?_⟩
  rintro ack rfl
  have hack := ackOf_byte ack
  refine ⟨fun _ => PortState.pull_closing hack, PortState.pull_badState hack, fun hl => ?_⟩
  rw [PortState.pull_opened hack hl]
  generalize s.ports[p] = q
  refine ⟨fun h => ?_, fun a tl h ho => ?_, fun a n h ho hn => ?_, fun a a' tl n h ho hn => ?_, fun a tl n h ho hn => ?_⟩
  · rw [PortState.pullOpen_empty (q := q.goodFrame) h, PortState.deliverNew_empty (q := q.goodFrame) h]
    rfl
  · rw [PortState.pullOpen_first (q := q.goodFrame) h ho, PortState.deliverNew_head (q := q.goodFrame) h]
    rfl
  · rw [PortState.pullOpen_acknowledged (q := q.goodFrame) h ho hn, PortState.deliverNew_empty rfl]
    rfl
  · rw [PortState.pullOpen_acknowledged (q := q.goodFrame) h ho hn, PortState.deliverNew_head rfl]
    rfl
  · rw [PortState.pullOpen_again (q := q.goodFrame) h ho hn, PortState.deliver_head (q := q.goodFrame) h, ← ho]
    rfl

end Sys2Proof.Machine
end

section
/-! RESET_LINK, PEEK and frames that are not of a known kind or not good, as a port settles them (R128, R129, R136, R137). -/

namespace Sys2Proof.Machine

open Sys2Proof

/-! ## RESET_LINK (R136) -/

/-- ATTN# of a port that is not OPEN is released (R141). -/
theorem State.attn_released {s : State} {p : Port} (h : s.ports[p].link ≠ .opened) : s.attn p = false := by
  unfold State.attn
  split
  · next hl => exact absurd hl h
  all_goals rfl

section reset
variable {q : PortState} {body : List Byte}

theorem PortState.resetLink_malformed (h : body ≠ []) :
    q.resetLink body = { q with badCount := 0, reply := some (frameBytes 0x86#8 []) } := if_pos h

theorem PortState.resetLink_opened (hl : q.link = .opened) :
    q.resetLink [] = { q with
      badCount := 0, link := .closing .reset, submit := [], answers := [], outstanding := none
      notice := none, teardown := true, reply := some (frameBytes 0x88#8 [0x04#8]) } := by
  simp only [PortState.resetLink, PortState.goodFrame, hl, ne_eq, not_true_eq_false, if_false]
  rfl

theorem PortState.resetLink_closed (hl : q.link = .closed) :
    q.resetLink [] = { q with badCount := 0, reply := some (frameBytes 0x88#8 [0x00#8]) } := by
  simp only [PortState.resetLink, PortState.goodFrame, hl, ne_eq, not_true_eq_false, if_false]
  rfl

theorem PortState.resetLink_faulted (hl : q.link = .faulted) :
    q.resetLink [] = { q with
      badCount := 0, link := .closed, notice := some .closed, reply := some (frameBytes 0x88#8 [0x00#8]) } := by
  simp only [PortState.resetLink, PortState.goodFrame, hl, ne_eq, not_true_eq_false, if_false]
  rfl

theorem PortState.resetLink_closing {c : Cause} (hl : q.link = .closing c) :
    q.resetLink [] = { q with badCount := 0, reply := some (frameBytes 0x84#8 []) } := by
  simp only [PortState.resetLink, PortState.goodFrame, hl, ne_eq, not_true_eq_false, if_false]
  rfl

end reset

/-- Settles O10, link state by link state. -/
theorem resetLinkOutcomes : Obligations.ResetLinkOutcomes := by
  intro s p body hr hoff
  refine ⟨_, _, congrArg Host.Outcome.next (State.takeFrame_listening _ hr hoff), rfl, PortState.resetLink_malformed,
    ?_, ?_, ?_, ?_⟩
  · rintro rfl hl
    refine ⟨PortState.resetLink_opened hl, State.attn_released ?_⟩
    dsimp only
    rw [set_get, if_pos rfl, PortState.resetLink_opened hl]
    exact nofun
  · rintro rfl hl
    exact PortState.resetLink_closed hl
  · rintro rfl hl
    exact PortState.resetLink_faulted hl
  · rintro c rfl hl
    exact PortState.resetLink_closing hl

/-! ## PEEK (R137) -/

/-- The body of a PEEK reply (Table 11-7). -/
def PortState.peekBody (q : PortState) : List Byte :=
  [linkByte q.link, causeByte q.link, if q.cls = .control then 0x01#8 else 0x00#8, BitVec.ofNat 8 q.badCount.val,
    BitVec.ofNat 8 q.submit.length, BitVec.ofNat 8 q.answers.length]

theorem PortState.peek_eq (q : PortState) (body : List Byte) :
    q.peek body = { q with
      badCount := 0, reply := some (if body ≠ [] then frameBytes 0x86#8 [] else frameBytes 0x8B#8 q.peekBody) } := by
  unfold PortState.peek
  split
  · rfl
  · rw [PortState.peekBody, ← classByte_eq]
    rfl

/-- Settles O11: the reply is read from the port as the frame found it (`PortState.peek_eq`). -/
theorem peekReportsThePort : Obligations.PeekReportsThePort := by
  intro s p body hr hoff
  refine ⟨_, congrArg _ ((State.takeFrame_listening _ hr hoff).trans (by rw [PortState.peek_eq])), fun h => if_pos h,
    fun h => ?_⟩
  refine ⟨linkByte s.ports[p].link, causeByte s.ports[p].link, if_neg (not_not.mpr h), ?_⟩
  refine ⟨?_, ?_, ?_, ?_, ?_, ?_⟩
  all_goals
    intro hl
    rw [hl]
    exact ⟨rfl, rfl⟩

/-! ## Bad frames and unknown kinds (R128, R129) -/

/-- The reply to a bad frame: a wrong CRC is answered, a frame cut short or too long is not (R128). -/
def badFrameReply (form : BadForm) : Option (List Byte) := if form = .badCrc then some (frameBytes 0x85#8 []) else none

/-- What a bad frame leaves: the count, the fault of the fourth in a row, and the reply. -/
theorem PortState.badFrame_eq (q : PortState) (form : BadForm) :
    q.badFrame form =
      { (if q.badCount = 3 then ({ q with badCount := 4 } : PortState).faultReached
         else if q.badCount = 4 then q else { q with badCount := q.badCount + 1 }) with reply := badFrameReply form } := by
  by_cases h3 : q.badCount = 3
  · unfold PortState.badFrame
    simp only [h3, if_true]
    cases form <;> rfl
  · unfold PortState.badFrame
    simp only [if_neg h3]
    cases form <;> rfl

section faults
variable {q : PortState}

theorem PortState.faultReached_opened (hl : q.link = .opened) :
    q.faultReached = { q with
      link := .closing .fault, submit := [], answers := [], outstanding := none, notice := none, teardown := true } := by
  simp only [PortState.faultReached, hl]
  rfl

theorem PortState.faultReached_closed (hl : q.link = .closed) :
    q.faultReached = { q with link := .faulted, notice := some .faulted } := by
  simp only [PortState.faultReached, hl]

theorem PortState.faultReached_idle (hl : (∃ c, q.link = .closing c) ∨ q.link = .faulted) : q.faultReached = q := by
  rcases hl with ⟨c, hl⟩ | hl <;> simp only [PortState.faultReached, hl]

end faults

/-- Settles O12: the count decides first, then the link state (`PortState.badFrame_eq`). -/
theorem badFramesAreCounted : Obligations.BadFramesAreCounted := by
  intro s p hr hoff
  refine ⟨fun form => ⟨_, badFrameReply form, congrArg _ (State.takeFrame_listening _ hr hoff), rfl, ?_⟩,
    fun kind body => congrArg _ (State.takeFrame_listening _ hr hoff)⟩
  rw [PortState.badFrame_eq]
  generalize s.ports[p] = q
  refine ⟨fun h => ?_, fun h => ?_, fun h hl => ?_, fun h hl => ?_, fun h hl => ?_⟩
  · rw [if_neg fun h3 => ?_, if_neg fun h4 => ?_]
    · rw [h4] at h
      exact absurd h (by decide)
    · rw [h3] at h
      exact absurd h (by decide)
  · rw [if_neg (by rw [h]; decide), if_pos h]
  · rw [if_pos h, PortState.faultReached_opened (q := { q with badCount := 4 }) hl]
  · rw [if_pos h, PortState.faultReached_closed (q := { q with badCount := 4 }) hl]
  · rw [if_pos h, PortState.faultReached_idle (q := { q with badCount := 4 }) hl]

end Sys2Proof.Machine
end

section
/-! The deliveries of the engine as they arrive at a port (R134, R139 to R141), and the link notice as the engine takes it
(R138). -/

namespace Sys2Proof.Machine

open Sys2Proof

/-- ATTN# follows link state, answer queue and indication (R141). -/
theorem State.attn_iff (s : State) (p : Port) :
    s.attn p = true ↔ s.ports[p].link = .opened ∧ (s.ports[p].answers ≠ [] ∨ s.ports[p].eligible = true) := by
  by_cases hl : s.ports[p].link = .opened
  · have hopen : s.attn p = (!s.ports[p].answers.isEmpty || s.ports[p].eligible) := by simp only [State.attn, hl]
    rw [hopen, Bool.or_eq_true, Bool.not_eq_true', List.isEmpty_eq_false_iff]
    exact (and_iff_right hl).symm
  · simp only [State.attn_released hl, Bool.false_eq_true, hl, false_and]

section arrivals
variable {q : PortState}

theorem PortState.answerArrives_opened {a : Answer} (ha : q.inAnswer = some a) (hl : q.link = .opened) :
    q.answerArrives = { q with answers := q.answers ++ [a], inAnswer := none } := by
  simp only [PortState.answerArrives, ha, hl]

theorem PortState.answerArrives_discarded {a : Answer} (ha : q.inAnswer = some a) (hl : q.link ≠ .opened) :
    q.answerArrives = { q with inAnswer := none } := by
  simp only [PortState.answerArrives, ha]
  split
  · next h => exact absurd h hl
  all_goals rfl

theorem PortState.evictArrives_opened (he : q.inEvict = true) (hl : q.link = .opened) :
    q.evictArrives = { q with
      link := .closing .evict, submit := [], answers := [], outstanding := none, notice := none, teardown := true
      inEvict := false } := by
  simp only [PortState.evictArrives, he, if_true, hl]
  rfl

theorem PortState.evictArrives_discarded (he : q.inEvict = true) (hl : q.link ≠ .opened) :
    q.evictArrives = { q with inEvict := false } := by
  simp only [PortState.evictArrives, he, if_true]
  split
  · next h => exact absurd h hl
  all_goals rfl

theorem PortState.completionArrives_closing {c : Cause} (hc : q.inCompletion = true) (hl : q.link = .closing c) :
    q.completionArrives = { q with link := if c = .fault then .faulted else .closed, inCompletion := false } := by
  cases c <;> simp only [PortState.completionArrives, hc, if_true, hl] <;> rfl

end arrivals

/-- Settles O14; ATTN# follows from the answer that stands in the queue (`State.attn_iff`). -/
theorem answersArrive : Obligations.AnswersArrive := by
  intro s p a ha
  refine ⟨_, _, rfl, rfl, fun hl => ⟨PortState.answerArrives_opened ha hl, ?_⟩, PortState.answerArrives_discarded ha⟩
  rw [State.attn_iff, State.modPort_get, if_pos rfl, PortState.answerArrives_opened ha hl]
  exact ⟨hl, .inl (by simp)⟩

/-- Settles O15; the second part is `State.attn_iff`. -/
theorem indicationsArriveAndDriveAttn : Obligations.IndicationsArriveAndDriveAttn := by
  refine ⟨fun s p yes h => ?_, State.attn_iff⟩
  have harrives : s.ports[p].indicationArrives = { s.ports[p] with eligible := yes, inIndication := none } := by
    simp only [PortState.indicationArrives, h]
  exact congrArg (fun q => Host.Outcome.next { s with ports := s.ports.set p q }) harrives

/-- Settles O16, in OPEN and in any other link state. -/
theorem evictRequestsArrive : Obligations.EvictRequestsArrive := fun _ _ he =>
  ⟨_, rfl, PortState.evictArrives_opened he, PortState.evictArrives_discarded he⟩

/-- Settles O17, cause by cause (`PortState.completionArrives_closing`). -/
theorem completionsArrive : Obligations.CompletionsArrive := by
  intro s p c hc hl
  exact congrArg (fun q => Host.Outcome.next { s with ports := s.ports.set p q }) (PortState.completionArrives_closing hc hl)

/-- The row of the notice the engine has chosen. -/
theorem exec_linkNotice {s : State} {p : Port} {v : NoticeValue} (h : s.choice = some (.notice p v)) :
    exec (.linkNotice p) s = .next ((s.taken (.notice p v)).setValue (linkSlot p) (noticeByte v)).sendIndications :=
  congrArg Host.Outcome.next
    (State.takeInternal_takes s h (act := fun t => t.setValue (linkSlot p) (noticeByte v)) (if_pos rfl))

/-- Settles O19: no indication is on its way when the notice is taken, so the giving of the value is all that follows. -/
theorem linkNoticesSetTheLinkRecord : Obligations.LinkNoticesSetTheLinkRecord := by
  intro s p v h
  refine ⟨_, exec_linkNotice h, ?_⟩
  have hgiven := GivenValue.sent (taken_indication h) (linkSlot p) (noticeByte v)
  cases v <;> exact hgiven

end Sys2Proof.Machine
end

section
/-! Every command as the engine takes it (R143 to R148): the row of a command by what the command comes to, the class check and
the handle check before the command's own checks (R6), and an answer that refuses or reports no change with nothing changed. -/

namespace Sys2Proof.Machine

open Sys2Proof

/-! ## The row of a command -/

/-- The row of a command carries out that command. -/
theorem exec_rowOf (s : State) (p : Port) (found : Option Level) (c : Command) :
    ∃ act, act c = some (fun t => t.carryOut p found c) ∧ exec (rowOf p found c.opcode) s = .next (s.takeCommand p act) := by
  cases c <;> exact ⟨_, by rfl, rfl⟩

section takes
variable {s : State} {p : Port} {tag : Byte} {c : Command} {rest : List Queued}

/-- A command taken is carried out; its answer and the owed indications are on their way (R143, R147). -/
theorem Takes.exec_rowOf (ht : Takes s p tag c rest) (found : Option Level) {m : State} {status : Status} {fields : List Byte}
    (hd : (s.serving p ⟨tag, c⟩).carryOut p found c = { state := m, status := status, fields := fields }) :
    Machine.exec (rowOf p found c.opcode) s
      = .next (m.sendAnswer p { tag := tag, code := c.opcode, status := status, fields := fields }).sendIndications := by
  obtain ⟨act, hact, hexec⟩ := Machine.exec_rowOf s p found c
  rw [hexec, ht.exec hact hd]

/-- A command taken that alters nothing leaves just its answer on its way. -/
theorem Takes.exec_idle (ht : Takes s p tag c rest) (found : Option Level) {status : Status} {fields : List Byte}
    (hd : (s.serving p ⟨tag, c⟩).carryOut p found c
      = { state := s.serving p ⟨tag, c⟩, status := status, fields := fields }) :
    Machine.exec (rowOf p found c.opcode) s
      = .next (s.answered p rest { tag := tag, code := c.opcode, status := status, fields := fields }) := by
  obtain ⟨act, hact, hexec⟩ := Machine.exec_rowOf s p found c
  rw [hexec, ht.reports hact hd]

end takes

/-! ## The class check and the handle check -/

theorem controlOnly_member {s : State} {p : Port} (h : s.ports[p].cls = .member) (act : State → Done) :
    controlOnly s p act = refuse s .denied := by
  rw [controlOnly, h]

/-- The class check stands first in every CONTROL command (R148). -/
theorem State.carryOut_member {s : State} {p : Port} {c : Command} (found : Option Level) (h : s.ports[p].cls = .member)
    (hc : c.opcode ∈ controlCommands) : s.carryOut p found c = refuse s .denied := by
  cases c with
  | lock | domainReset | domainRelease | bindPin | unbindPin | evict =>
    simp only [State.carryOut, State.lock, State.domainReset, State.domainRelease, State.bindPin, State.unbindPin, State.evict,
      controlOnly_member h]
  | declare | retire | claim | lookup | set | setIf | raise | read | readGroup | subscribe | unsubscribe | acquire | release
  | releaseTop | threshold | serviceList | pinQuery => simp [Command.opcode, controlCommands] at hc

/-- The handle check stands first in every command with a handle, but for the class check (R6, R148). -/
theorem State.carryOut_withHandle {s : State} {p : Port} {c : Command} {h : Handle} {pass : Bool} (found : Option Level)
    (hcls : s.ports[p].cls = .control ∨ c.opcode ∉ controlCommands) (hc : handleOf c = some (h, pass)) :
    ∃ act, s.carryOut p found c = s.withHandle pass h act := by
  cases c with
  | lock | bindPin =>
    cases hc
    have hcontrol := hcls.resolve_right (not_not_intro (by simp [Command.opcode, controlCommands]))
    simp only [State.carryOut, State.lock, State.bindPin, controlOnly_control hcontrol]
    exact ⟨_, rfl⟩
  | retire | claim | set | setIf | raise | read | subscribe | unsubscribe | release =>
    cases hc
    exact ⟨_, rfl⟩
  | declare | lookup | readGroup | acquire | releaseTop | threshold | serviceList | domainReset | domainRelease | unbindPin
  | pinQuery | evict => cases hc

theorem State.withHandle_error {s : State} {pass : Bool} {h : Handle} {e : Status} (he : s.checkHandle pass h = .error e)
    (act : SlotNo → Record → Done) : s.withHandle pass h act = refuse s e := by
  rw [State.withHandle, he]

/-- A handle of a DRAINING record, where the command lets none pass (R6). -/
theorem State.checkHandle_draining {s : State} {h : Handle} {i : SlotNo} {r : Record} (hn : Names s h i r)
    (hr : r.state = .draining) : s.checkHandle false h = .error .draining := by
  obtain ⟨hslot, hgen, hrecord⟩ := hn
  rw [State.checkHandle, slotOf_of_val hslot]
  dsimp only
  rw [hrecord]
  dsimp only
  rw [if_neg (not_not_intro hgen), if_pos ⟨hr, rfl⟩]

/-- A command whose handle fails the check is answered with what the check finds, and nothing else comes of it. -/
theorem Takes.handle_error {s : State} {p : Port} {tag : Byte} {c : Command} {rest : List Queued} (ht : Takes s p tag c rest)
    (found : Option Level) (hcls : s.ports[p].cls = .control ∨ c.opcode ∉ controlCommands) {h : Handle} {pass : Bool}
    (hc : handleOf c = some (h, pass)) {e : Status} (he : (s.serving p ⟨tag, c⟩).checkHandle pass h = .error e) :
    Machine.exec (rowOf p found c.opcode) s = s.bare p tag c.opcode rest e := by
  rw [← ht.serving_cls] at hcls
  obtain ⟨act, hact⟩ := State.carryOut_withHandle found hcls hc
  exact ht.exec_idle found (hact.trans (State.withHandle_error he act))

/-- Settles O24: the class check stands before everything in a CONTROL command (`State.carryOut_member`), the handle check
before everything else in a command with a handle (`State.carryOut_withHandle`). -/
theorem classAndHandleChecksComeFirst : Obligations.ClassAndHandleChecksComeFirst := by
  intro s p tag c rest found ht
  refine ⟨fun hmember hcontrol => ?_, fun hcls h pass hc => ⟨fun hrange => ?_, fun i hi hstale => ?_, ?_⟩⟩
  · rw [← ht.serving_cls] at hmember
    exact ht.exec_idle found (State.carryOut_member found hmember hcontrol)
  · exact ht.handle_error found hcls hc (State.checkHandle_outOfRange pass hrange)
  · rw [← ht.serving_slots] at hstale
    exact ht.handle_error found hcls hc (State.checkHandle_stale pass hi hstale)
  · rintro i r hn hdraining rfl
    exact ht.handle_error found hcls hc (State.checkHandle_draining (ht.names hn) hdraining)

/-! ## Answers that change nothing -/

/-- What a command carried out in s comes to, as far as R148 goes: with the status of a refusal, or of an outcome that changes
nothing, the state is s. -/
def StandsUnlessDone (s : State) (d : Done) : Prop := d.status ∈ unchangingStatuses → d.state = s

namespace StandsUnlessDone
variable {s : State} {p : Port}

theorem ok_not_unchanging : Status.ok ∉ unchangingStatuses := by decide

theorem same (status : Status) (fields : List Byte) : StandsUnlessDone s { state := s, status := status, fields := fields } :=
  fun _ => rfl

theorem ok (t : State) (fields : List Byte) : StandsUnlessDone s { state := t, status := .ok, fields := fields } :=
  fun h => absurd h ok_not_unchanging

theorem orRefused {c : Prop} [Decidable c] {e : Status} {d : Done} (h : StandsUnlessDone s d) :
    StandsUnlessDone s (if c then refuse s e else d) := by
  split
  · exact .same e []
  · exact h

theorem controlOnly {act : State → Done} (h : StandsUnlessDone s (act s)) : StandsUnlessDone s (controlOnly s p act) := by
  unfold Machine.controlOnly
  split
  · exact .same _ _
  · exact h

theorem withHandle {pass : Bool} {hd : Handle} {act : SlotNo → Record → Done} (h : ∀ i r, StandsUnlessDone s (act i r)) :
    StandsUnlessDone s (s.withHandle pass hd act) := by
  unfold State.withHandle
  split
  · exact .same _ _
  · exact h _ _

/-! ### The directory -/

theorem declare (id : Half) (kind init dflt dom policy : Byte) :
    StandsUnlessDone s (s.declare p id kind init dflt dom policy) := by
  refine .orRefused ?_
  split
  · refine .orRefused (.orRefused ?_)
    split
    · exact .same _ _
    · exact .ok _ _
  · exact .same _ _

theorem retire (h : Handle) : StandsUnlessDone s (s.retire p h) := by
  refine .withHandle fun i r => .orRefused (.orRefused ?_)
  split
  · intro hstatus
    dsimp only at hstatus
    split at hstatus <;> exact absurd hstatus (by decide)
  · exact .same _ _

theorem claim (h : Handle) : StandsUnlessDone s (s.claim p h) := by
  refine .withHandle fun i r => .orRefused (.orRefused ?_)
  split
  · exact .ok _ _
  · split
    · exact .same _ _
    · exact .same _ _
  all_goals exact .same _ _

theorem lookup (id : Half) : StandsUnlessDone s (s.lookup id) := by
  unfold State.lookup
  split
  · exact .same _ _
  · split <;> exact .same _ _

theorem lock (h : Handle) : StandsUnlessDone s (s.lock p h) :=
  .controlOnly (.withHandle fun _ _ => .orRefused (.orRefused (.ok _ _)))

/-! ### Values -/

theorem writeValue (i : SlotNo) (r : Record) (v : Byte) : StandsUnlessDone s (s.writeValue i r v) := by
  unfold State.writeValue
  split
  · exact .same _ _
  · exact .ok _ _

theorem set (h : Handle) (v : Byte) : StandsUnlessDone s (s.set p h v) := by
  refine .withHandle fun i r => .orRefused ?_
  split
  · exact .same _ _
  · exact writeValue i r v

theorem setIf (h : Handle) (expected : Half) (v : Byte) : StandsUnlessDone s (s.setIf p h expected v) := by
  refine .withHandle fun i r => .orRefused ?_
  split
  · exact .same _ _
  · split
    · exact .same _ _
    · exact writeValue i r v

theorem raise (h : Handle) (n : Byte) : StandsUnlessDone s (s.raise p h n) := by
  refine .withHandle fun i r => .orRefused (.orRefused ?_)
  split
  · exact .same _ _
  · exact .ok _ _

theorem read (h : Handle) : StandsUnlessDone s (s.read h) := .withHandle fun _ _ => .same _ _

theorem readGroup (hs : List Handle) : StandsUnlessDone s (s.readGroup hs) := .orRefused (.same _ _)

/-! ### Subscriptions and service -/

theorem subscribe (h : Handle) (prio cond matchValue mode cls attrs : Byte) :
    StandsUnlessDone s (s.subscribe p h prio cond matchValue mode cls attrs) := by
  refine .withHandle fun i r => ?_
  split
  · exact .same _ _
  · split
    · exact .orRefused (.ok _ _)
    · exact .orRefused (.ok _ _)

theorem unsubscribe (h : Handle) : StandsUnlessDone s (s.unsubscribe p h) := by
  refine .withHandle fun i r => ?_
  split
  · exact .same _ _
  · exact .orRefused (.ok _ _)

theorem acquire : StandsUnlessDone s (s.acquire p) := by
  unfold State.acquire
  split
  · exact .same _ _
  · split
    · exact .same _ _
    · split
      · exact .same _ _
      · split
        · exact .same _ _
        · exact .ok _ _

theorem release (h : Handle) : StandsUnlessDone s (s.release p h) := by
  refine .withHandle fun i _ => ?_
  split
  · exact .same _ _
  · exact .ok _ _

theorem releaseTop : StandsUnlessDone s (s.releaseTop p) := by
  unfold State.releaseTop
  split
  · exact .same _ _
  · exact .ok _ _

theorem setThreshold (t : Byte) : StandsUnlessDone s (s.setThreshold p t) := by
  unfold State.setThreshold
  split
  · exact .ok _ _
  · exact .same _ _

/-! ### Domains -/

theorem started_not_unchanging : Status.started ∉ unchangingStatuses := by decide

/-- STARTED and OK are the only statuses under which a domain moves (Table 6-3). -/
theorem resetDomain (d : Dom) (mode : ResetMode) (timeout : Byte) : StandsUnlessDone s (s.resetDomain d mode timeout) := by
  unfold State.resetDomain
  split
  · split
    · exact fun h => absurd h started_not_unchanging
    · exact .ok _ _
  · exact .ok _ _
  · exact .same _ _
  · exact .ok _ _
  · exact .same _ _

theorem domainReset (dom mode timeout : Byte) : StandsUnlessDone s (s.domainReset p dom mode timeout) := by
  refine .controlOnly ?_
  split
  · exact resetDomain _ _ timeout
  · exact .same _ _

theorem domainRelease (dom : Byte) : StandsUnlessDone s (s.domainRelease p dom) := by
  refine .controlOnly ?_
  split
  · exact .same _ _
  · unfold State.releaseDomain
    split
    · exact .same _ _
    · exact .ok _ _
    · exact .ok _ _

/-! ### Pins and EVICT -/

theorem bindPin (found : Option Level) (pin : Byte) (h : Handle) (dir active filter : Byte) :
    StandsUnlessDone s (s.bindPin p found pin h dir active filter) := by
  refine .controlOnly (.withHandle fun i r => .orRefused ?_)
  split
  · split
    · exact .same _ _
    · exact .ok _ _
  · exact .same _ _

theorem unbindPin (pin : Byte) : StandsUnlessDone s (s.unbindPin p pin) := by
  refine .controlOnly ?_
  split
  · exact .same _ _
  · split
    · exact .same _ _
    · exact .ok _ _

theorem pinQuery (pin : Byte) : StandsUnlessDone s (s.pinQuery pin) := by
  unfold State.pinQuery
  split
  · exact .same _ _
  · exact .same _ _

theorem evict (port : Byte) : StandsUnlessDone s (s.evict p port) := by
  refine .controlOnly ?_
  split
  · exact .same _ _
  · exact .orRefused (.orRefused (.ok _ _))

/-- No command has changed anything when its status says so. -/
theorem carryOut (found : Option Level) : ∀ c : Command, StandsUnlessDone s (s.carryOut p found c)
  | .declare id kind init dflt dom policy => declare id kind init dflt dom policy
  | .retire h => retire h
  | .claim h => claim h
  | .lookup id => lookup id
  | .lock h => lock h
  | .set h v => set h v
  | .setIf h expected v => setIf h expected v
  | .raise h n => raise h n
  | .read h => read h
  | .readGroup hs => readGroup hs
  | .subscribe h prio cond matchValue mode cls attrs => subscribe h prio cond matchValue mode cls attrs
  | .unsubscribe h => unsubscribe h
  | .acquire => acquire
  | .release h => release h
  | .releaseTop => releaseTop
  | .threshold t => setThreshold t
  | .serviceList => same _ _
  | .domainReset dom mode timeout => domainReset dom mode timeout
  | .domainRelease dom => domainRelease dom
  | .bindPin pin h dir active filter => bindPin found pin h dir active filter
  | .unbindPin pin => unbindPin pin
  | .pinQuery pin => pinQuery pin
  | .evict port => evict port

end StandsUnlessDone

/-- The answer on its way to the port whose command was carried out. -/
theorem State.sent_answer (m : State) (p : Port) (a : Answer) : (m.sendAnswer p a).sendIndications.ports[p].inAnswer = some a := by
  rw [State.sendIndications_get, State.sendAnswer_ports, set_get, if_pos rfl]

/-- Settles O25: the answer on its way is that of what the command came to, which by its status is the state before
(`StandsUnlessDone.carryOut`). -/
theorem refusedCommandsChangeNothing : Obligations.RefusedCommandsChangeNothing := by
  intro s t p tag c rest found a ht hexec hanswer hstatus
  have hstands := StandsUnlessDone.carryOut (s := s.serving p ⟨tag, c⟩) (p := p) found c
  generalize hd : (s.serving p ⟨tag, c⟩).carryOut p found c = d at hstands
  obtain rfl := Host.Outcome.next.inj ((ht.exec_rowOf found hd).symm.trans hexec)
  obtain rfl := Option.some.inj ((State.sent_answer d.state p _).symm.trans hanswer)
  have hidle : (s.serving p ⟨tag, c⟩).carryOut p found c = { d with state := s.serving p ⟨tag, c⟩ } := by
    rw [hd, ← hstands hstatus]
  exact ⟨Host.Outcome.next.inj (hexec.symm.trans (ht.exec_idle found hidle)), rfl, rfl⟩

/-! ## EVICT (R149) -/

theorem portOf_val {b : Byte} {q : Port} (h : b.toNat = q.val) : portOf b = some q := by
  rw [portOf, dif_pos (h ▸ q.isLt)]
  exact congrArg some (Fin.ext h)

theorem portOf_none {b : Byte} (h : 6 ≤ b.toNat) : portOf b = none := dif_neg (Nat.not_lt.mpr h)

section evict
variable {s : State} {p q : Port} {port : Byte}

theorem State.evict_badParam (hcls : s.ports[p].cls = .control) (h : 6 ≤ port.toNat ∨ port.toNat = p.val) :
    s.evict p port = refuse s .badParam := by
  rw [State.evict, controlOnly_control hcls]
  rcases h with h | h
  · rw [portOf_none h]
  · rw [portOf_val h]
    exact if_pos rfl

/-- EVICT of another port goes by its enable strap (R149). -/
theorem State.evict_other (hcls : s.ports[p].cls = .control) (h : port.toNat = q.val) (hq : q ≠ p) :
    s.evict p port =
      if s.ports[q].enabled = false then refuse s .notOpen
      else
        { state := s.modPort q fun x => { x with inEvict := true }, status := .ok, fields := [s.valueAt (linkSlot q)] } := by
  rw [State.evict, controlOnly_control hcls, portOf_val h]
  exact if_neg hq

end evict

section takes
variable {s : State} {p q : Port} {tag : Byte} {c : Command} {rest : List Queued}

theorem Takes.serving_port (ht : Takes s p tag c rest) (hq : q ≠ p) : (s.serving p ⟨tag, c⟩).ports[q] = s.ports[q] := by
  rw [ht.serving]
  exact (set_get ..).trans (if_neg hq)

/-- A command that alters one other port, and owes no indication there, leaves that port beside its answer. -/
theorem Takes.sent_modPort (ht : Takes s p tag c rest) (hq : q ≠ p) {f : PortState → PortState}
    (hf : ∀ x, (f x).inIndication = x.inIndication) (a : Answer) :
    (((s.serving p ⟨tag, c⟩).modPort q f).sendAnswer p a).sendIndications
      = { s.answered p rest a with ports := (s.answered p rest a).ports.set q (f s.ports[q]) } := by
  have hports : ((((s.serving p ⟨tag, c⟩).modPort q f).sendAnswer p a).ports : Vector PortState 6)
      = (s.answered p rest a).ports.set q (f s.ports[q]) := by
    refine vector_ext fun r => ?_
    rw [State.sendAnswer_ports, State.modPort_ports, ht.serving_port hq, ht.serving]
    simp only [State.answered, set_get, hq.symm, if_true, if_false]
    by_cases hrp : r = p
    · simp only [hrp, hq.symm, if_true, if_false]
    · simp only [hrp, if_false]
  have hsent : ((s.serving p ⟨tag, c⟩).modPort q f).sendAnswer p a
      = { s.answered p rest a with ports := (s.answered p rest a).ports.set q (f s.ports[q]) } := by
    rw [← hports, ht.serving]
    rfl
  rw [hsent]
  refine State.sendIndications_none _ fun r => ?_
  dsimp only
  rw [set_get]
  split
  · rw [hf]
    exact ht.no_indication q
  · exact ht.answered_indication a r

end takes

/-- Settles O44: the checks in their order; the request on its way alters no port but the target. -/
theorem evictOutcomes : Obligations.EvictOutcomes := by
  intro s p tag port rest ht hcontrol
  have hcls := (ht.serving_cls p).trans hcontrol
  refine ⟨fun hbad => ht.exec_idle none (State.evict_badParam hcls hbad), fun q hport hq => ?_⟩
  have hevict := State.evict_other hcls hport hq
  rw [ht.serving_port hq] at hevict
  refine ⟨fun hoff => ht.exec_idle none (hevict.trans (if_pos hoff)), fun hon => ?_⟩
  rw [if_neg (by rw [hon]; exact Bool.noConfusion)] at hevict
  have hvalue : (s.serving p ⟨tag, .evict port⟩).valueAt (linkSlot q) = s.valueAt (linkSlot q) := by
    simp only [State.valueAt, ht.serving_slots]
  rw [hvalue] at hevict
  refine ⟨_, (ht.exec_rowOf none hevict).trans ?_, rfl⟩
  rw [ht.sent_modPort hq (f := fun x => { x with inEvict := true }) fun _ => rfl]
  rfl

end Sys2Proof.Machine
end

section
/-! The choice of the arbiter (R143 to R145): the lines of Table 9-1 as the model reads them, what each line names, and when
the engine is free. -/

namespace Sys2Proof.Machine

open Sys2Proof

/-! ## The first of several flags -/

section raised
variable {n : Nat} {α : Type} {flag : Fin n → Option α} {named : Fin n → α → Taking}

/-- No flag of a line is raised. -/
theorem firstRaised_none : (List.finRange n).findSome? (fun i => (flag i).map (named i)) = none ↔ ∀ i, flag i = none := by
  rw [← Fin.findSome?_eq_findSome?_finRange, Fin.findSome?_eq_none_iff]
  exact forall_congr' fun i => Option.map_eq_none_iff

/-- The raised flag of the lowest number is the one found, with what it carries. -/
theorem firstRaised_iff (hinj : ∀ i j a b, named i a = named j b → i = j ∧ a = b) {i : Fin n} {a : α} :
    (List.finRange n).findSome? (fun i => (flag i).map (named i)) = some (named i a)
      ↔ flag i = some a ∧ ∀ j < i, flag j = none := by
  rw [← Fin.findSome?_eq_findSome?_finRange, Fin.findSome?_eq_some_iff]
  simp only [Option.map_eq_none_iff, Option.map_eq_some_iff]
  constructor
  · rintro ⟨j, ⟨b, hb, hnamed⟩, hfirst⟩
    obtain ⟨rfl, rfl⟩ := hinj _ _ _ _ hnamed
    exact ⟨hb, hfirst⟩
  · rintro ⟨ha, hfirst⟩
    exact ⟨i, ⟨a, ha, rfl⟩, hfirst⟩

end raised

/-! ## The lines of Table 9-1 -/

/-- The line of Table 9-1 a request stands in, from 0; port commands come last. -/
def Taking.line : Taking → Fin 6
  | .teardown _ => 0
  | .notice _ _ => 1
  | .deadline _ _ _ => 2
  | .warning _ _ => 3
  | .pinUpdate _ _ => 4
  | .command _ _ => 5

/-- The deadline expiry of port p with the lowest priority number. -/
def State.foundDeadline (s : State) (p : Port) : Option Taking :=
  (List.finRange 8).findSome? fun k => (s.deadlines[p][k]).flag.map (.deadline p k)

/-- What the arbiter finds in one line: the request raised at the lowest place, and in the last line the round's command. -/
def State.foundInLine (s : State) : Fin 6 → Option Taking
  | 0 => ((List.finRange 6).find? fun p => (s.ports[p]).teardown).map .teardown
  | 1 => (List.finRange 6).findSome? fun p => (s.ports[p]).notice.map (.notice p)
  | 2 => (List.finRange 6).findSome? s.foundDeadline
  | 3 => (List.finRange 8).findSome? fun d => (s.warnings[d]).flag.map (.warning d)
  | 4 => (List.finRange 16).findSome? fun g => (s.pins[g]).flag.map (.pinUpdate g)
  | 5 => s.readyCommand

/-- Nothing stands in the lines before this one. -/
def State.ClearBefore (s : State) (l : Fin 6) : Prop := ∀ k < l, s.foundInLine k = none

section lines
variable (s : State)

/-- The arbiter goes through the lines in order (R144, R145). -/
theorem State.nextRequest_eq : s.nextRequest = Fin.findSome? s.foundInLine := by
  simp only [State.nextRequest, State.internalRequests, List.head?_append, List.head?_map, List.head?_filter,
    List.head?_filterMap, List.head?_flatMap, Option.orElse_eq_orElse, Option.orElse_eq_or, Option.or_assoc,
    Fin.findSome?_succ, Fin.findSome?_zero, Option.or_none]
  rfl

variable {s}

theorem State.foundInLine_line {l : Fin 6} {r : Taking} (h : s.foundInLine l = some r) : r.line = l := by
  match l with
  | 0 =>
    obtain ⟨p, -, rfl⟩ := Option.map_eq_some_iff.mp h
    rfl
  | 1 | 3 | 4 =>
    obtain ⟨i, -, hi⟩ := List.exists_of_findSome?_eq_some h
    obtain ⟨a, -, rfl⟩ := Option.map_eq_some_iff.mp hi
    rfl
  | 2 =>
    obtain ⟨p, -, hp⟩ := List.exists_of_findSome?_eq_some h
    obtain ⟨k, -, hk⟩ := List.exists_of_findSome?_eq_some hp
    obtain ⟨f, -, rfl⟩ := Option.map_eq_some_iff.mp hk
    rfl
  | 5 =>
    obtain ⟨p, -, hp⟩ := Option.bind_eq_some_iff.mp (show s.readyCommand = _ from h)
    obtain ⟨c, -, rfl⟩ := Option.map_eq_some_iff.mp hp
    rfl

/-- The arbiter's choice is what it finds in the request's own line, with nothing in the lines before. -/
theorem State.nextRequest_iff {r : Taking} :
    s.nextRequest = some r ↔ s.ClearBefore r.line ∧ s.foundInLine r.line = some r := by
  rw [State.nextRequest_eq, Fin.findSome?_eq_some_iff]
  constructor
  · rintro ⟨l, hl, hclear⟩
    obtain rfl := State.foundInLine_line hl
    exact ⟨hclear, hl⟩
  · rintro ⟨hclear, hr⟩
    exact ⟨_, hr, hclear⟩

/-! ### What stands in each line -/

theorem State.no_teardown : s.foundInLine 0 = none ↔ ∀ p : Port, s.ports[p].teardown = false := by
  simp [State.foundInLine]

theorem State.teardown_found {p : Port} :
    s.foundInLine 0 = some (.teardown p) ↔ s.ports[p].teardown = true ∧ ∀ q : Port, q < p → s.ports[q].teardown = false := by
  have hmap : s.foundInLine 0 = some (.teardown p) ↔ (List.finRange 6).find? (fun q => (s.ports[q]).teardown) = some p := by
    simp [State.foundInLine]
  rw [hmap, ← Fin.find?_eq_find?_finRange, Fin.find?_eq_some_iff]

theorem State.no_notice : s.foundInLine 1 = none ↔ ∀ p : Port, s.ports[p].notice = none := firstRaised_none

theorem State.notice_found {p : Port} {v : NoticeValue} :
    s.foundInLine 1 = some (.notice p v) ↔ s.ports[p].notice = some v ∧ ∀ q : Port, q < p → s.ports[q].notice = none :=
  firstRaised_iff (flag := fun q : Port => (s.ports[q]).notice) fun _ _ _ _ => Taking.notice.inj

theorem State.foundDeadline_none {p : Port} : s.foundDeadline p = none ↔ ∀ k : Prio, s.deadlines[p][k].flag = none :=
  firstRaised_none

theorem State.foundDeadline_iff {p q : Port} {k : Prio} {f : DeadlineFlag} :
    s.foundDeadline q = some (.deadline p k f)
      ↔ q = p ∧ s.deadlines[q][k].flag = some f ∧ ∀ j < k, s.deadlines[q][j].flag = none := by
  by_cases hq : q = p
  · subst hq
    rw [and_iff_right rfl]
    exact firstRaised_iff (flag := fun j : Prio => (s.deadlines[q][j]).flag) fun _ _ _ _ h => (Taking.deadline.inj h).2
  · refine iff_of_false (fun h => ?_) fun h => hq h.1
    obtain ⟨j, -, hj⟩ := List.exists_of_findSome?_eq_some h
    obtain ⟨g, -, hg⟩ := Option.map_eq_some_iff.mp hj
    exact hq (Taking.deadline.inj hg).1

theorem State.no_deadline : s.foundInLine 2 = none ↔ ∀ (p : Port) (k : Prio), s.deadlines[p][k].flag = none := by
  rw [State.foundInLine, ← Fin.findSome?_eq_findSome?_finRange, Fin.findSome?_eq_none_iff]
  exact forall_congr' fun p => State.foundDeadline_none

/-- The lowest port goes before the lowest priority number (Table 9-1). -/
theorem State.deadline_found {p : Port} {k : Prio} {f : DeadlineFlag} :
    s.foundInLine 2 = some (.deadline p k f) ↔ s.deadlines[p][k].flag = some f
      ∧ ∀ (q : Port) (j : Prio), q < p ∨ (q = p ∧ j < k) → s.deadlines[q][j].flag = none := by
  rw [State.foundInLine, ← Fin.findSome?_eq_findSome?_finRange, Fin.findSome?_eq_some_iff]
  simp only [State.foundDeadline_iff, State.foundDeadline_none]
  constructor
  · rintro ⟨q, ⟨rfl, hflag, hlower⟩, hports⟩
    refine ⟨hflag, fun o j hbefore => ?_⟩
    rcases hbefore with ho | ⟨rfl, hj⟩
    · exact hports o ho j
    · exact hlower j hj
  · rintro ⟨hflag, hbefore⟩
    exact ⟨p, ⟨rfl, hflag, fun j hj => hbefore p j (.inr ⟨rfl, hj⟩)⟩, fun o ho j => hbefore o j (.inl ho)⟩

theorem State.no_warning : s.foundInLine 3 = none ↔ ∀ d : Dom, s.warnings[d].flag = none := firstRaised_none

theorem State.warning_found {d : Dom} {serial : Byte} :
    s.foundInLine 3 = some (.warning d serial)
      ↔ s.warnings[d].flag = some serial ∧ ∀ e : Dom, e < d → s.warnings[e].flag = none :=
  firstRaised_iff (flag := fun e : Dom => (s.warnings[e]).flag) fun _ _ _ _ => Taking.warning.inj

theorem State.no_pinUpdate : s.foundInLine 4 = none ↔ ∀ g : Pin, s.pins[g].flag = none := firstRaised_none

theorem State.pinUpdate_found {g : Pin} {serial : Byte} :
    s.foundInLine 4 = some (.pinUpdate g serial)
      ↔ s.pins[g].flag = some serial ∧ ∀ h : Pin, h < g → s.pins[h].flag = none :=
  firstRaised_iff (flag := fun h : Pin => (s.pins[h]).flag) fun _ _ _ _ => Taking.pinUpdate.inj

/-! ### The lines before -/

theorem State.clearBefore_zero : s.ClearBefore 0 := fun _ h => absurd h (Fin.not_lt_zero _)

theorem State.clearBefore_next {l m : Fin 6} (h : m.val = l.val + 1) :
    s.ClearBefore m ↔ s.ClearBefore l ∧ s.foundInLine l = none := by
  constructor
  · intro hclear
    exact ⟨fun k hk => hclear k (by omega), hclear l (by omega)⟩
  · rintro ⟨hbefore, hl⟩ k hk
    by_cases hkl : k = l
    · rw [hkl, hl]
    · exact hbefore k (by omega)

theorem State.clearBefore_notices : s.ClearBefore 1 ↔ ∀ q : Port, s.ports[q].teardown = false := by
  rw [State.clearBefore_next (l := 0) rfl, and_iff_right State.clearBefore_zero, State.no_teardown]

theorem State.clearBefore_deadlines :
    s.ClearBefore 2 ↔ ∀ q : Port, s.ports[q].teardown = false ∧ s.ports[q].notice = none := by
  rw [State.clearBefore_next (l := 1) rfl, State.clearBefore_notices, State.no_notice, forall_and]

theorem State.clearBefore_warnings :
    s.ClearBefore 3 ↔ ∀ q : Port, s.ports[q].teardown = false ∧ s.ports[q].notice = none
      ∧ ∀ j : Prio, s.deadlines[q][j].flag = none := by
  rw [State.clearBefore_next (l := 2) rfl, State.clearBefore_deadlines, State.no_deadline]
  simp only [forall_and, and_assoc]

theorem State.clearBefore_pinUpdates :
    s.ClearBefore 4 ↔ (∀ q : Port, s.ports[q].teardown = false ∧ s.ports[q].notice = none
      ∧ ∀ j : Prio, s.deadlines[q][j].flag = none) ∧ ∀ d : Dom, s.warnings[d].flag = none := by
  rw [State.clearBefore_next (l := 3) rfl, State.clearBefore_warnings, State.no_warning]

theorem State.clearBefore_commands :
    s.ClearBefore 5 ↔ (∀ q : Port, s.ports[q].teardown = false ∧ s.ports[q].notice = none
      ∧ ∀ j : Prio, s.deadlines[q][j].flag = none) ∧ (∀ d : Dom, s.warnings[d].flag = none)
      ∧ ∀ g : Pin, s.pins[g].flag = none := by
  rw [State.clearBefore_next (l := 4) rfl, State.clearBefore_pinUpdates, State.no_pinUpdate, and_assoc]

end lines

/-! ## The round (R145) -/

/-- The place of a port in the round that starts after the last-served port. -/
def portPlace (last p : Port) : Port := p - last - 1

theorem round_portPlace (last p : Port) : last + 1 + portPlace last p = p := by
  unfold portPlace
  abel

theorem portPlace_round (last j : Port) : portPlace last (last + 1 + j) = j := by
  unfold portPlace
  abel

/-- The port found in the round is the one of the earliest place at which c holds. -/
theorem roundOrder_find?_iff {last p : Port} {c : Port → Bool} :
    (roundOrder last).find? c = some p ↔ c p = true ∧ ∀ q, c q = true → portPlace last p ≤ portPlace last q := by
  rw [roundOrder, List.find?_map, ← Fin.find?_eq_find?_finRange, Option.map_eq_some_iff]
  simp only [Fin.find?_eq_some_iff, Function.comp]
  constructor
  · rintro ⟨j, ⟨hj, hfirst⟩, rfl⟩
    refine ⟨hj, fun q hq => ?_⟩
    rw [portPlace_round]
    refine not_lt.mp fun hlt => ?_
    have := hfirst _ hlt
    rw [round_portPlace, hq] at this
    exact Bool.noConfusion this
  · rintro ⟨hp, hfirst⟩
    refine ⟨portPlace last p, ⟨by rw [round_portPlace, hp], fun j hj => Bool.eq_false_iff.mpr fun hc => ?_⟩,
      round_portPlace last p⟩
    have := hfirst _ hc
    rw [portPlace_round] at this
    exact absurd hj (not_lt.mpr this)

theorem PortState.ready_iff {q : PortState} :
    q.ready = true ↔ q.link = .opened ∧ q.submit ≠ [] ∧ q.answers.length < 8 := by
  simp only [PortState.ready, Bool.and_eq_true, Bool.not_eq_true', List.isEmpty_eq_false_iff, decide_eq_true_eq, and_assoc]
  rfl

/-- The round's command is that at the head of the first ready port's queue. -/
theorem State.readyCommand_iff {s : State} {p : Port} {c : Queued} :
    s.readyCommand = some (.command p c)
      ↔ (s.ports[p].link = .opened ∧ s.ports[p].submit.head? = some c ∧ s.ports[p].answers.length < 8)
        ∧ ∀ q : Port, s.ports[q].link = .opened → s.ports[q].submit ≠ [] → s.ports[q].answers.length < 8 →
            portPlace s.lastServed p ≤ portPlace s.lastServed q := by
  have hfound : s.readyCommand = some (.command p c)
      ↔ (roundOrder s.lastServed).find? (fun q => (s.ports[q]).ready) = some p ∧ s.ports[p].submit.head? = some c := by
    simp [State.readyCommand, Option.bind_eq_some_iff]
  rw [hfound, roundOrder_find?_iff]
  simp only [PortState.ready_iff, and_imp]
  constructor
  · rintro ⟨⟨⟨hopen, -, hroom⟩, hfirst⟩, hhead⟩
    exact ⟨⟨hopen, hhead, hroom⟩, hfirst⟩
  · rintro ⟨⟨hopen, hhead, hroom⟩, hfirst⟩
    have hwaiting : s.ports[p].submit ≠ [] := List.ne_nil_of_mem (List.mem_of_head? hhead)
    exact ⟨⟨⟨hopen, hwaiting, hroom⟩, hfirst⟩, hhead⟩

/-! ## The free engine (R143) -/

section free
variable (s : State)

theorem State.engineFree_iff_quiet : s.engineFree = true ↔ s.quiet = true ∧ s.taking = none := by
  rw [State.engineFree, Bool.and_eq_true, Option.isNone_iff_eq_none]

theorem DeadlineUnit.runOutDue_iff (u : DeadlineUnit) : u.runOutDue = false ↔ ∀ x ∈ u.timer, x.remaining ≠ 0 := by
  unfold DeadlineUnit.runOutDue
  cases u.timer <;> simp

theorem WarningUnit.runOutDue_iff (u : WarningUnit) : u.runOutDue = false ↔ ∀ x ∈ u.timer, x.remaining ≠ 0 := by
  unfold WarningUnit.runOutDue
  cases u.timer <;> simp

theorem PinState.acceptDue_iff (x : PinState) : x.acceptDue = false ↔ ∀ f ∈ x.input, f.due = false := by
  unfold PinState.acceptDue
  cases x.input <;> simp

/-- Nothing of a tick is left: every run-out and every acceptance has happened (assumption 4). -/
theorem State.tickFinished_iff :
    s.tickUnfinished = false ↔ (∀ (p : Port) (k : Prio), ∀ x ∈ s.deadlines[p][k].timer, x.remaining ≠ 0)
      ∧ (∀ d : Dom, ∀ x ∈ s.warnings[d].timer, x.remaining ≠ 0) ∧ ∀ g : Pin, ∀ f ∈ s.pins[g].input, f.due = false := by
  simp only [← DeadlineUnit.runOutDue_iff, ← WarningUnit.runOutDue_iff, ← PinState.acceptDue_iff]
  simp [State.tickUnfinished, and_assoc]

theorem PortState.awaitsDelivery_iff (q : PortState) :
    q.awaitsDelivery = false ↔ q.inAnswer = none ∧ q.inIndication = none ∧ q.inEvict = false := by
  simp [PortState.awaitsDelivery, and_assoc]

theorem State.quiet_iff :
    s.quiet = true ↔ s.rstLow = false ∧ s.tickUnfinished = false
      ∧ ∀ p : Port, s.ports[p].inAnswer = none ∧ s.ports[p].inIndication = none ∧ s.ports[p].inEvict = false := by
  simp only [← PortState.awaitsDelivery_iff]
  simp [State.quiet, and_assoc]

theorem State.engineFree_iff :
    s.engineFree = true ↔
      s.rstLow = false ∧ s.taking = none
        ∧ (∀ (p : Port) (k : Prio), ∀ x ∈ s.deadlines[p][k].timer, x.remaining ≠ 0)
        ∧ (∀ d : Dom, ∀ x ∈ s.warnings[d].timer, x.remaining ≠ 0)
        ∧ (∀ g : Pin, ∀ f ∈ s.pins[g].input, f.due = false)
        ∧ ∀ p : Port, s.ports[p].inAnswer = none ∧ s.ports[p].inIndication = none ∧ s.ports[p].inEvict = false := by
  rw [State.engineFree_iff_quiet, State.quiet_iff, State.tickFinished_iff]
  tauto

variable {s}

theorem State.choice_not_free (ht : s.taking = none) (h : s.engineFree = false) : s.choice = none := by
  rw [State.choice_next s ht, if_neg]
  intro hquiet
  rw [s.engineFree_iff_quiet.mpr ⟨hquiet, ht⟩] at h
  exact Bool.noConfusion h

/-- A request held as chosen waits for what would hold up an engine without it. -/
theorem State.choice_held {r : Taking} (ht : s.taking = some r) :
    s.choice = if ({ s with taking := none } : State).engineFree = true then some r else none := by
  rw [State.choice_taking s ht]
  refine if_congr ?_ rfl rfl
  rw [State.engineFree_iff_quiet, and_iff_left rfl]
  rfl

theorem State.choice_free (h : s.engineFree = true) : s.choice = s.nextRequest := by
  obtain ⟨hquiet, ht⟩ := s.engineFree_iff_quiet.mp h
  rw [State.choice_next s ht, if_pos hquiet]

/-- What a free engine takes stands in its line, and nothing stands in the lines before. -/
theorem State.choice_free_iff (h : s.engineFree = true) {r : Taking} :
    s.choice = some r ↔ s.ClearBefore r.line ∧ s.foundInLine r.line = some r := by
  rw [State.choice_free h, State.nextRequest_iff]

theorem State.engaged_chosen {r : Taking} (ht : s.taking = none) (hc : s.choice = some r) :
    s.engaged = { s.taken r with taking := some r } := by
  rw [State.engaged_spec, ht, hc, State.taken_spec, if_pos ht]

theorem State.engaged_same (h : s.taking ≠ none ∨ s.choice = none) : s.engaged = s := by
  rw [State.engaged_spec]
  split
  · next r ht hc => exact absurd hc (by rw [h.resolve_left (not_not_intro ht)]; exact nofun)
  · rfl
  · rfl

end free

/-! ## Rows of requests that are not the choice -/

section waits
variable {s : State}

theorem exec_teardownRequest_waits {p : Port} (h : s.choice ≠ some (.teardown p)) :
    exec (.teardownRequest p) s = .next s := by
  refine congrArg Host.Outcome.next (State.takeInternal_waits s fun r hr => ?_)
  split
  · next q => exact if_neg fun hq : q = p => h (hq ▸ hr)
  · rfl

theorem exec_linkNotice_waits {p : Port} (h : ∀ v, s.choice ≠ some (.notice p v)) : exec (.linkNotice p) s = .next s := by
  refine congrArg Host.Outcome.next (State.takeInternal_waits s fun r hr => ?_)
  split
  · next q v => exact if_neg fun hq : q = p => h v (hq ▸ hr)
  · rfl

theorem exec_deadlineExpiryRequest_waits {p : Port} {k : Prio} (h : ∀ f, s.choice ≠ some (.deadline p k f)) :
    exec (.deadlineExpiryRequest p k) s = .next s := by
  refine congrArg Host.Outcome.next (State.takeInternal_waits s fun r hr => ?_)
  split
  · next f =>
    refine if_neg ?_
    rintro ⟨rfl, rfl⟩
    exact h f hr
  · rfl

theorem exec_warningExpiryRequest_waits {d : Dom} (h : ∀ serial, s.choice ≠ some (.warning d serial)) :
    exec (.warningExpiryRequest d) s = .next s := by
  refine congrArg Host.Outcome.next (State.takeInternal_waits s fun r hr => ?_)
  split
  · next e serial => exact if_neg fun he : e = d => h serial (he ▸ hr)
  · rfl

theorem exec_pinUpdateRequest_waits {g : Pin} (h : ∀ serial, s.choice ≠ some (.pinUpdate g serial)) :
    exec (.pinUpdateRequest g) s = .next s := by
  refine congrArg Host.Outcome.next (State.takeInternal_waits s fun r hr => ?_)
  split
  · next e serial => exact if_neg fun he : e = g => h serial (he ▸ hr)
  · rfl

theorem exec_command_waits {p : Port} (found : Option Level) (o : Opcode) (h : ∀ c, s.choice ≠ some (.command p c)) :
    exec (rowOf p found o) s = .next s := by
  cases o
  all_goals exact congrArg Host.Outcome.next (State.takeCommand_waits s p _ h)

end waits

/-- Settles O18: a free engine goes through the lines of Table 9-1 (`State.choice_free_iff`), each line by its own order. -/
theorem arbiterChoosesInOrder : Obligations.ArbiterChoosesInOrder := by
  intro s
  refine ⟨s.engineFree_iff, State.choice_not_free, fun r => State.choice_held,
    fun hfree => ⟨fun p => ?_, fun p v => ?_, fun p k f => ?_, fun d serial => ?_, fun g serial => ?_, fun p c => ?_⟩,
    fun r ht => ?_, fun r ht => ?_, fun r => State.engaged_chosen, State.engaged_same, fun p => exec_teardownRequest_waits,
    fun p => exec_linkNotice_waits, fun p k => exec_deadlineExpiryRequest_waits, fun d => exec_warningExpiryRequest_waits,
    fun g => exec_pinUpdateRequest_waits, fun p found o => exec_command_waits found o⟩
  · exact (State.choice_free_iff hfree).trans ((and_iff_right State.clearBefore_zero).trans State.teardown_found)
  · exact (State.choice_free_iff hfree).trans (and_congr State.clearBefore_notices State.notice_found)
  · exact (State.choice_free_iff hfree).trans (and_congr State.clearBefore_deadlines State.deadline_found)
  · exact (State.choice_free_iff hfree).trans (and_congr State.clearBefore_warnings State.warning_found)
  · exact (State.choice_free_iff hfree).trans
      ((and_congr State.clearBefore_pinUpdates State.pinUpdate_found).trans and_assoc)
  · exact (State.choice_free_iff hfree).trans
      ((and_congr State.clearBefore_commands State.readyCommand_iff).trans (by rw [and_assoc, and_assoc]; rfl))
  · rw [State.taken_spec, if_pos ht]
    cases r <;> rfl
  · rw [State.taken_spec, if_neg ht]

end Sys2Proof.Machine
end

section
/-! The step: one equation for each shape of the queue of waiting steps. -/

namespace Sys2Proof.Machine

open Sys2Proof

variable {s : State}

/-- The front of the queue happens; its row sees only the queue's rest. -/
theorem step_of_pending_cons {c : Instr} {rest : List Instr} (h : s.pending = c :: rest) :
    step s = exec c { s with pending := rest } := by
  rw [step, h]

/-- The part idles (assumption 8). -/
theorem step_of_pending_nil (h : s.pending = []) : step s = .next s := by
  rw [step, h]

/-- Settles O1: the two shapes of the queue. -/
theorem stepRunsTheFrontStep : Obligations.StepRunsTheFrontStep :=
  ⟨fun _ _ _ => step_of_pending_cons, fun _ => step_of_pending_nil⟩

end Sys2Proof.Machine
end
